-- ==== Sys2Proof/Word.lean ====
section
/-! DEFINITION. The words of the part: bytes of frames, the wrapping 32-bit counts, and the fixed
index types of its links and zones. -/

namespace Sys2Proof

/-- A byte of a frame. -/
abbrev Byte := BitVec 8

/-- The step number and the exposure tick number: they wrap after 2^32 - 1 (00_scope, R24, R116). -/
abbrev Word32 := BitVec 32

/-- One of the station links SL0..SL11. -/
abbrev Link := Fin 12

/-- One of the climate zones Z0..Z7. -/
abbrev Zone := Fin 8

end Sys2Proof
end

