-- ==== Sys2Proof/Syntax.lean ====
section
/-! DEFINITION. The commands of the part, one constructor per row of spec/opcode_table.json, with
the operands of their command frames (R180) or of their events. -/

namespace Sys2Proof

/-- The six link errors (R179). -/
inductive LinkError where
  | parity
  | framing
  | check
  | truncated
  | unknown
  | contention
  deriving DecidableEq, Repr

/-- The six schedule values of one zone as SET_FORMAT carries them (R101, R184). -/
structure ScheduleOperand where
  temperature : BitVec 16
  temperatureTolerance : Byte
  temperatureLimit : Byte
  humidity : Byte
  humidityTolerance : Byte
  humidityLimit : Byte
  deriving DecidableEq, Repr

/-- The 67 operand bytes of SET_FORMAT, in the layout of the FORMAT record (R159, R184). -/
structure FormatOperand where
  format : Byte
  isDefined : Byte
  dryingClass : Byte
  leadGap : Byte
  doseMinimum : BitVec 24
  doseMaximum : BitVec 24
  tolerance : Byte
  schedules : Vector ScheduleOperand 8
  deriving DecidableEq, Repr

/-- The commands. A request names the link it arrives on; its further operands are the frame's. -/
inductive Instr where
  /-- LINK_STATUS (R179) -/
  | linkStatus (link : Link)
  /-- SEEK: space code, index (R181) -/
  | seek (link : Link) (space : Byte) (index : BitVec 16)
  /-- READ: count, advance flag (R182) -/
  | read (link : Link) (count advance : Byte)
  /-- STREAM_RECORD: the next turn of the stream on a link (R182) -/
  | streamRecord (link : Link)
  /-- TRANSMIT_COMPLETE: the last byte of a response has gone (R178) -/
  | transmitComplete (link : Link)
  /-- OPEN_LOT: lot number, format (R11) -/
  | openLot (link : Link) (number : BitVec 24) (format : Byte)
  /-- CLOSE_LOT (R12) -/
  | closeLot (link : Link)
  /-- HOLD_LOT: lot number (R16) -/
  | holdLot (link : Link) (number : BitVec 24)
  /-- RELEASE_LOT: lot number (R16) -/
  | releaseLot (link : Link) (number : BitVec 24)
  /-- FOLD_LOT: lot A to be folded, lot B it is to follow (R14) -/
  | foldLot (link : Link) (lotA lotB : BitVec 24)
  /-- UNFOLD_LOT: lot A (R15) -/
  | unfoldLot (link : Link) (lotA : BitVec 24)
  /-- HANG: rod ID (R69, R70) -/
  | hang (link : Link) (rod : BitVec 16)
  /-- WITHDRAW: rod ID (R71) -/
  | withdraw (link : Link) (rod : BitVec 16)
  /-- CHANGEOVER: pending format (R78) -/
  | changeover (link : Link) (format : Byte)
  /-- CANCEL_CHANGEOVER (R83) -/
  | cancelChangeover (link : Link)
  /-- START (R56) -/
  | start (link : Link)
  /-- HOLD (R53) -/
  | hold (link : Link)
  /-- RESUME (R58, R59) -/
  | resume (link : Link)
  /-- STOP (R60) -/
  | stop (link : Link)
  /-- SET_CADENCE: compare value (R27) -/
  | setCadence (link : Link) (compare : BitVec 16)
  /-- CONFIRM_STEP (R41) -/
  | confirmStep (link : Link)
  /-- ABANDON_STEP (R42) -/
  | abandonStep (link : Link)
  /-- TAKE (R135) -/
  | take (link : Link)
  /-- CONFIRM: rod ID (R137) -/
  | confirm (link : Link) (rod : BitVec 16)
  /-- SETPOINT (R103) -/
  | setpoint (link : Link)
  /-- CLIMATE: format, temperature, humidity, dose rate (R104) -/
  | climate (link : Link) (format : Byte) (temperature : BitVec 16) (humidity doseRate : Byte)
  /-- QUIET: flag (R110) -/
  | quiet (link : Link) (flag : Byte)
  /-- TRIM_SETPOINT: format, zone, temperature and humidity setpoints (R111) -/
  | trimSetpoint (link : Link) (format zone : Byte) (temperature : BitVec 16) (humidity : Byte)
  /-- CLAIM: claim kind (R145) -/
  | claim (link : Link) (kind : Byte)
  /-- RELEASE: claim kind (R147) -/
  | release (link : Link) (kind : Byte)
  /-- PURGE (R150) -/
  | purge (link : Link)
  /-- LOCK_CONFIG (R157) -/
  | lockConfig (link : Link)
  /-- SET_TRACK_LENGTH: the new length (R22) -/
  | setTrackLength (link : Link) (length : BitVec 16)
  /-- SET_WINDOW: zone, base, limit (R94) -/
  | setWindow (link : Link) (zone : Byte) (base limit : BitVec 16)
  /-- SET_FORMAT: the FORMAT record layout (R159) -/
  | setFormat (link : Link) (entry : FormatOperand)
  /-- SET_INTERVAL: selector, value (R160) -/
  | setInterval (link : Link) (selector : Byte) (value : BitVec 16)
  /-- SET_ROUTE: class number, destination (R164) -/
  | setRoute (link : Link) (eventClass destination : Byte)
  /-- SILENCE (R166) -/
  | silence (link : Link)
  /-- READ_NOTES (R167) -/
  | readNotes (link : Link)
  /-- CLEAR_CAPTURE: zone (R172) -/
  | clearCapture (link : Link) (zone : Byte)
  /-- FRAME_DISCARDED: a frame that ends in PARITY, FRAMING, CHECK or UNKNOWN (R177) -/
  | frameDiscarded (link : Link) (error : LinkError)
  /-- TRUNCATED: the inter-byte limit runs out (R177) -/
  | truncated (link : Link)
  /-- CONTENTION: an opening mark received while transmitting (R178) -/
  | contention (link : Link)
  /-- BREAK: the line held spacing for one base tick (R185) -/
  | lineBreak (link : Link)
  /-- DEVICE_RESET: the release of RESET, with the strap code of each link (R47, R174) -/
  | deviceReset (straps : Vector (BitVec 4) 12)
  /-- HOLD_LINE_RISE (R52) -/
  | holdLineRise
  /-- HOLD_LINE_FALL (R52) -/
  | holdLineFall
  /-- ADVANCE_DONE: the line rises (R32) -/
  | advanceDone
  /-- CADENCE_EXPIRY (R28) -/
  | cadenceExpiry
  /-- SETTLE_EXPIRY (R35) -/
  | settleExpiry
  /-- ADVANCE_LIMIT_EXPIRY (R38) -/
  | advanceLimitExpiry
  /-- EXIT_WAIT_EXPIRY (R45) -/
  | exitWaitExpiry
  /-- EXPOSURE_TICK (R117) -/
  | exposureTick
  /-- BASE_TICK: 100 ms of the time base (R25, R26, R114) -/
  | baseTick
  /-- ADVANCE_DONE_FALL: the line falls (R32) -/
  | advanceDoneFall
  /-- OPENING_MARK_RECEIVED: a 7Eh arrives on a link (R177) -/
  | openingMarkReceived (link : Link)
  /-- LINE_RETURNED_TO_MARKING: the break on a link ends (R185) -/
  | lineReturnedToMarking (link : Link)
  deriving DecidableEq, Repr

end Sys2Proof
end

