-- ==== Sys2Proof/WellFormed.lean ====
section
/-! DEFINITION. Which command terms the lines can deliver. Every operand's width is in its type, so
the one check left is that a discarded frame ended in one of the four errors of R177 that end a
frame by what was received (TRUNCATED and CONTENTION are commands of their own). -/

namespace Sys2Proof

/-- The errors with which FRAME_DISCARDED may end a frame (R177). -/
def LinkError.endsFrame : LinkError → Bool
  | .parity => true
  | .framing => true
  | .check => true
  | .unknown => true
  | .truncated => false
  | .contention => false

/-- A command that a sender can put in the queue. -/
def Instr.wellFormed : Instr → Bool
  | .linkStatus _ => true
  | .seek _ _ _ => true
  | .read _ _ _ => true
  | .streamRecord _ => true
  | .transmitComplete _ => true
  | .openLot _ _ _ => true
  | .closeLot _ => true
  | .holdLot _ _ => true
  | .releaseLot _ _ => true
  | .foldLot _ _ _ => true
  | .unfoldLot _ _ => true
  | .hang _ _ => true
  | .withdraw _ _ => true
  | .changeover _ _ => true
  | .cancelChangeover _ => true
  | .start _ => true
  | .hold _ => true
  | .resume _ => true
  | .stop _ => true
  | .setCadence _ _ => true
  | .confirmStep _ => true
  | .abandonStep _ => true
  | .take _ => true
  | .confirm _ _ => true
  | .setpoint _ => true
  | .climate _ _ _ _ _ => true
  | .quiet _ _ => true
  | .trimSetpoint _ _ _ _ _ => true
  | .claim _ _ => true
  | .release _ _ => true
  | .purge _ => true
  | .lockConfig _ => true
  | .setTrackLength _ _ => true
  | .setWindow _ _ _ _ => true
  | .setFormat _ _ => true
  | .setInterval _ _ _ => true
  | .setRoute _ _ _ => true
  | .silence _ => true
  | .readNotes _ => true
  | .clearCapture _ _ => true
  | .frameDiscarded _ error => error.endsFrame
  | .truncated _ => true
  | .contention _ => true
  | .lineBreak _ => true
  | .deviceReset _ => true
  | .holdLineRise => true
  | .holdLineFall => true
  | .advanceDone => true
  | .cadenceExpiry => true
  | .settleExpiry => true
  | .advanceLimitExpiry => true
  | .exitWaitExpiry => true
  | .exposureTick => true
  | .baseTick => true
  | .advanceDoneFall => true
  | .openingMarkReceived _ => true
  | .lineReturnedToMarking _ => true

end Sys2Proof
end

