-- ==== Sys2Proof/Decode.lean ====
section
/-! DEFINITION. No row of spec/opcode_table.json gives bits, so a table word spells no command. The
command frames of the links (R176, R177, R180) are modelled beside it: `commandFrame` writes the
frame of a request and `readFrame` reads a frame as the receiver does. -/

namespace Sys2Proof

/-- No row of the table gives bits: a word spells no command. -/
def decodeTableWord (_nbits _w : Nat) : Option Instr := none

/-! ## Bytes, most significant first (R176) -/

/-- The low `8 * count` bits of a number as bytes, most significant first. -/
def beBytes : Nat → Nat → List Byte
  | 0, _ => []
  | count + 1, n => BitVec.ofNat 8 (n / 256 ^ count) :: beBytes count n

/-- The number that bytes spell, most significant first. -/
def ofBytes (bytes : List Byte) : Nat :=
  bytes.foldl (fun n b => n * 256 + b.toNat) 0

/-- The check byte that makes the sum of the bytes after the opening mark, itself included, equal
to 0 modulo 256 (R176). -/
def checkByte (bytes : List Byte) : Byte := -(bytes.foldl (· + ·) 0)

/-- The opening mark of every frame (R176). -/
def openingMark : Byte := 0x7E

/-- A frame around its bytes: opening mark, bytes, check (R176). -/
def frameOf (bytes : List Byte) : List Byte := openingMark :: (bytes ++ [checkByte bytes])

/-! ## Command frames (R180) -/

/-- The seven bytes of one zone's schedule in SET_FORMAT (R184). -/
def scheduleOperandBytes (z : ScheduleOperand) : List Byte :=
  beBytes 2 z.temperature.toNat ++
    [z.temperatureTolerance, z.temperatureLimit, z.humidity, z.humidityTolerance, z.humidityLimit]

/-- The 67 operand bytes of SET_FORMAT (R184). -/
def formatOperandBytes (f : FormatOperand) : List Byte :=
  [f.format, f.isDefined, f.dryingClass, f.leadGap] ++ beBytes 3 f.doseMinimum.toNat ++
    beBytes 3 f.doseMaximum.toNat ++ [f.tolerance] ++
    (List.ofFn fun z : Zone => scheduleOperandBytes f.schedules[z]).flatten

/-- The link, the command code and the operand bytes of a request (R180); an event has no frame. -/
def request : Instr → Option (Link × Byte × List Byte)
  | .linkStatus link => some (link, 0x01, [])
  | .seek link space index => some (link, 0x02, beBytes 1 space.toNat ++ beBytes 2 index.toNat)
  | .read link count advance => some (link, 0x03, beBytes 1 count.toNat ++ beBytes 1 advance.toNat)
  | .openLot link number format => some (link, 0x10, beBytes 3 number.toNat ++ beBytes 1 format.toNat)
  | .closeLot link => some (link, 0x11, [])
  | .holdLot link number => some (link, 0x12, beBytes 3 number.toNat)
  | .releaseLot link number => some (link, 0x13, beBytes 3 number.toNat)
  | .foldLot link lotA lotB => some (link, 0x14, beBytes 3 lotA.toNat ++ beBytes 3 lotB.toNat)
  | .unfoldLot link lotA => some (link, 0x15, beBytes 3 lotA.toNat)
  | .hang link rod => some (link, 0x20, beBytes 2 rod.toNat)
  | .withdraw link rod => some (link, 0x21, beBytes 2 rod.toNat)
  | .changeover link format => some (link, 0x22, beBytes 1 format.toNat)
  | .cancelChangeover link => some (link, 0x23, [])
  | .start link => some (link, 0x30, [])
  | .hold link => some (link, 0x31, [])
  | .resume link => some (link, 0x32, [])
  | .stop link => some (link, 0x33, [])
  | .setCadence link compare => some (link, 0x34, beBytes 2 compare.toNat)
  | .confirmStep link => some (link, 0x35, [])
  | .abandonStep link => some (link, 0x36, [])
  | .take link => some (link, 0x40, [])
  | .confirm link rod => some (link, 0x41, beBytes 2 rod.toNat)
  | .setpoint link => some (link, 0x50, [])
  | .climate link format temperature humidity doseRate => some (link, 0x51, beBytes 1 format.toNat ++ beBytes 2 temperature.toNat ++ beBytes 1 humidity.toNat ++ beBytes 1 doseRate.toNat)
  | .quiet link flag => some (link, 0x52, beBytes 1 flag.toNat)
  | .trimSetpoint link format zone temperature humidity => some (link, 0x53, beBytes 1 format.toNat ++ beBytes 1 zone.toNat ++ beBytes 2 temperature.toNat ++ beBytes 1 humidity.toNat)
  | .claim link kind => some (link, 0x60, beBytes 1 kind.toNat)
  | .release link kind => some (link, 0x61, beBytes 1 kind.toNat)
  | .purge link => some (link, 0x62, [])
  | .lockConfig link => some (link, 0x63, [])
  | .setTrackLength link length => some (link, 0x64, beBytes 2 length.toNat)
  | .setWindow link zone base limit => some (link, 0x65, beBytes 1 zone.toNat ++ beBytes 2 base.toNat ++ beBytes 2 limit.toNat)
  | .setFormat link entry => some (link, 0x66, formatOperandBytes entry)
  | .setInterval link selector value => some (link, 0x67, beBytes 1 selector.toNat ++ beBytes 2 value.toNat)
  | .setRoute link eventClass destination => some (link, 0x70, beBytes 1 eventClass.toNat ++ beBytes 1 destination.toNat)
  | .silence link => some (link, 0x71, [])
  | .readNotes link => some (link, 0x72, [])
  | .clearCapture link zone => some (link, 0x73, beBytes 1 zone.toNat)
  | .streamRecord _ => none
  | .transmitComplete _ => none
  | .frameDiscarded _ _ => none
  | .truncated _ => none
  | .contention _ => none
  | .lineBreak _ => none
  | .deviceReset _ => none
  | .holdLineRise => none
  | .holdLineFall => none
  | .advanceDone => none
  | .cadenceExpiry => none
  | .settleExpiry => none
  | .advanceLimitExpiry => none
  | .exitWaitExpiry => none
  | .exposureTick => none
  | .baseTick => none
  | .advanceDoneFall => none
  | .openingMarkReceived _ => none
  | .lineReturnedToMarking _ => none

/-- The command frame of a request (R176); an event has none. -/
def commandFrame (i : Instr) : Option (List Byte) :=
  (request i).map fun (_, code, operands) => frameOf (code :: operands)

/-- The operand of `width` bytes that starts at byte `start`. -/
def operand (operands : List Byte) (start width : Nat) : BitVec (8 * width) :=
  BitVec.ofNat _ (ofBytes ((operands.drop start).take width))

/-- The schedule operand that starts at byte `start`. -/
def scheduleOperandOf (operands : List Byte) (start : Nat) : ScheduleOperand :=
  { temperature := operand operands start 2
    temperatureTolerance := operand operands (start + 2) 1
    temperatureLimit := operand operands (start + 3) 1
    humidity := operand operands (start + 4) 1
    humidityTolerance := operand operands (start + 5) 1
    humidityLimit := operand operands (start + 6) 1 }

/-- The operands of SET_FORMAT from its 67 bytes (R184). -/
def formatOperandOf (operands : List Byte) : FormatOperand :=
  { format := operand operands 0 1
    isDefined := operand operands 1 1
    dryingClass := operand operands 2 1
    leadGap := operand operands 3 1
    doseMinimum := operand operands 4 3
    doseMaximum := operand operands 7 3
    tolerance := operand operands 10 1
    schedules := Vector.ofFn fun z : Zone => scheduleOperandOf operands (11 + 7 * z.val) }

/-- How many operand bytes follow a command code; `none` for a code that is not in the request
table (R177, R180). -/
def operandCount (code : Nat) : Option Nat :=
  match code with
  | 0x01 => some 0
  | 0x02 => some 3
  | 0x03 => some 2
  | 0x10 => some 4
  | 0x11 => some 0
  | 0x12 => some 3
  | 0x13 => some 3
  | 0x14 => some 6
  | 0x15 => some 3
  | 0x20 => some 2
  | 0x21 => some 2
  | 0x22 => some 1
  | 0x23 => some 0
  | 0x30 => some 0
  | 0x31 => some 0
  | 0x32 => some 0
  | 0x33 => some 0
  | 0x34 => some 2
  | 0x35 => some 0
  | 0x36 => some 0
  | 0x40 => some 0
  | 0x41 => some 2
  | 0x50 => some 0
  | 0x51 => some 5
  | 0x52 => some 1
  | 0x53 => some 5
  | 0x60 => some 1
  | 0x61 => some 1
  | 0x62 => some 0
  | 0x63 => some 0
  | 0x64 => some 2
  | 0x65 => some 5
  | 0x66 => some 67
  | 0x67 => some 3
  | 0x70 => some 2
  | 0x71 => some 0
  | 0x72 => some 0
  | 0x73 => some 1
  | _ => none

/-- The request of a code with its operand bytes (R180). -/
def requestOf (link : Link) (code : Nat) (operands : List Byte) : Option Instr :=
  match code with
  | 0x01 => some (.linkStatus link)
  | 0x02 => some (.seek link (operand operands 0 1) (operand operands 1 2))
  | 0x03 => some (.read link (operand operands 0 1) (operand operands 1 1))
  | 0x10 => some (.openLot link (operand operands 0 3) (operand operands 3 1))
  | 0x11 => some (.closeLot link)
  | 0x12 => some (.holdLot link (operand operands 0 3))
  | 0x13 => some (.releaseLot link (operand operands 0 3))
  | 0x14 => some (.foldLot link (operand operands 0 3) (operand operands 3 3))
  | 0x15 => some (.unfoldLot link (operand operands 0 3))
  | 0x20 => some (.hang link (operand operands 0 2))
  | 0x21 => some (.withdraw link (operand operands 0 2))
  | 0x22 => some (.changeover link (operand operands 0 1))
  | 0x23 => some (.cancelChangeover link)
  | 0x30 => some (.start link)
  | 0x31 => some (.hold link)
  | 0x32 => some (.resume link)
  | 0x33 => some (.stop link)
  | 0x34 => some (.setCadence link (operand operands 0 2))
  | 0x35 => some (.confirmStep link)
  | 0x36 => some (.abandonStep link)
  | 0x40 => some (.take link)
  | 0x41 => some (.confirm link (operand operands 0 2))
  | 0x50 => some (.setpoint link)
  | 0x51 => some (.climate link (operand operands 0 1) (operand operands 1 2) (operand operands 3 1) (operand operands 4 1))
  | 0x52 => some (.quiet link (operand operands 0 1))
  | 0x53 => some (.trimSetpoint link (operand operands 0 1) (operand operands 1 1) (operand operands 2 2) (operand operands 4 1))
  | 0x60 => some (.claim link (operand operands 0 1))
  | 0x61 => some (.release link (operand operands 0 1))
  | 0x62 => some (.purge link)
  | 0x63 => some (.lockConfig link)
  | 0x64 => some (.setTrackLength link (operand operands 0 2))
  | 0x65 => some (.setWindow link (operand operands 0 1) (operand operands 1 2) (operand operands 3 2))
  | 0x66 => some (.setFormat link (formatOperandOf operands))
  | 0x67 => some (.setInterval link (operand operands 0 1) (operand operands 1 2))
  | 0x70 => some (.setRoute link (operand operands 0 1) (operand operands 1 1))
  | 0x71 => some (.silence link)
  | 0x72 => some (.readNotes link)
  | 0x73 => some (.clearCapture link (operand operands 0 1))
  | _ => none

/-- What the receiver makes of the bytes of one frame, opening mark first (R177): an UNKNOWN code
ends the frame, too few bytes leave it unfinished (`none`), and a check that does not balance ends
it with CHECK. -/
def readFrame (link : Link) : List Byte → Option (Except LinkError Instr)
  | mark :: code :: rest =>
    if mark = openingMark then
      match operandCount code.toNat with
      | none => some (.error .unknown)
      | some count =>
        if rest.length < count + 1 then none
        else if (code :: rest.take (count + 1)).foldl (· + ·) 0 = (0 : Byte) then
          (requestOf link code.toNat (rest.take count)).map .ok
        else some (.error .check)
    else none
  | _ => none

end Sys2Proof
end

