-- ==== Sys2Proof/Config.lean ====
section
/-! DEFINITION. The constants of the part. The spec leaves no value to an implementation and none
open after an operation that goes on, so there is no free value here. -/

namespace Sys2Proof.Config

/-- Rods that the staging queue and the boarding slot hold together (R67). -/
def stagingCapacity : Nat := 4

/-- Exit records that the exit queue holds (R129). -/
def exitCapacity : Nat := 8

/-- The shortest and the longest track (R22). -/
def trackMin : Nat := 16
def trackMax : Nat := 1024

/-- The dose at which crediting saturates (R119). -/
def doseMax : Nat := 4194303

/-- Counters of 8 and 16 bits stop here (R75, R108, R121, R26). -/
def byteMax : Nat := 255
def wordMax : Nat := 65535

/-- Lot entries that a lot chain resolution visits at most (R17). -/
def chainVisits : Nat := 5

/-- A frame is TRUNCATED when more than this many base ticks pass between two of its bytes (R177). -/
def gapLimit : Nat := 2

/-- Records that one READ may ask for at most (R182). -/
def readMax : Nat := 64

/-- The constants of the IDENT record (R183). -/
def vendorCode : Nat := 0x2A
def partCode : Nat := 0x06
def revision : Nat := 0x01

/-- Configured values after device reset (R25, R92, R155). -/
def resetSettle : Nat := 10
def resetAdvanceLimit : Nat := 50
def resetExitWaitLimit : Nat := 600
def resetStalenessLimit : Nat := 6

end Sys2Proof.Config
end

