-- ==== Sys2Proof/Machine/State.lean ====
section
/-! DEFINITION. The state of the part, block by block as 00_scope lists the blocks, as plain data,
and the state after device reset. -/

namespace Sys2Proof.Machine

/-! ## Rod registry -/

/-- The marks of a rod, in the order of the rod record's field table (R5, R184). -/
inductive Mark where
  | minorExposure
  | majorExposure
  | unmonitored
  | offSchedule
  | lateShift
  | lotHeld
  | chainFault
  deriving DecidableEq, Repr

/-- The set of marks a rod has (R5). -/
structure Marks where
  minorExposure : Bool := false
  majorExposure : Bool := false
  unmonitored : Bool := false
  offSchedule : Bool := false
  lateShift : Bool := false
  lotHeld : Bool := false
  chainFault : Bool := false
  deriving DecidableEq, Repr

/-- The quality level of a rod, in rising order. -/
inductive Grade where
  | clean
  | noted
  | suspect
  | barred
  deriving DecidableEq, Repr

/-- The destination of a rod's goods (R132). -/
inductive Disposition where
  | cut
  | cutNoted
  | regrindUnder
  | regrindOver
  | quarantine
  deriving DecidableEq, Repr

/-- Where a rod is, with the fields that are present only there (R3). -/
inductive Place where
  | staged
  | boarding
  | onTrack (position : Nat) (boardStep : Word32)
  | exited (boardStep exitStep : Word32) (disposition : Disposition)
  deriving DecidableEq, Repr

/-- A rod record (01 section 1.1). -/
structure RodRecord where
  id : Nat
  lot : Fin 32
  format : Nat
  place : Place
  hangStep : Word32
  dose : Nat
  offSchedule : Nat
  marks : Marks
  grade : Grade
  deriving DecidableEq, Repr

/-- A lot entry that is not FREE is OPEN or CLOSED (R7). -/
inductive LotStatus where
  | opened
  | closed
  deriving DecidableEq, Repr

/-- The fields of a lot entry that is not FREE (01 section 1.3). -/
structure Lot where
  status : LotStatus
  number : Nat
  format : Nat
  rodCount : Nat
  held : Bool
  forward : Option (Fin 32)
  referrers : Nat
  deriving DecidableEq, Repr

/-- The lot table; `none` is a FREE entry, whose fields are all cleared (R8). -/
abbrev LotTable := Vector (Option Lot) 32

/-- The rod registry: the rod records in rising order of rod ID, and the lot table. -/
structure Registry where
  rods : List RodRecord
  lots : LotTable
  deriving DecidableEq, Repr

/-! ## Admission unit -/

/-- The content of the boarding slot (R67). -/
inductive Boarding where
  | empty
  | gap
  | rod (id : Nat)
  deriving DecidableEq, Repr

/-- The admission mode; the pending format and the required gap are present exactly in CHANGEOVER
(R72). -/
inductive AdmissionMode where
  | open_
  | changeover (pending requiredGap : Nat)
  | closed
  deriving DecidableEq, Repr

/-- The admission unit (R67, R68, R72, R75). -/
structure Admission where
  staging : List Nat
  boarding : Boarding
  running : Option Nat
  mode : AdmissionMode
  trailing : Nat
  deriving DecidableEq, Repr

/-! ## Track controller -/

/-- The motion state (R50). -/
inductive Motion where
  | stopped
  | running
  | holding
  | held
  deriving DecidableEq, Repr

/-- The hold causes, in the order of 03 section 3.2. -/
inductive Cause where
  | line
  | command
  | motion
  | exit
  | event
  deriving DecidableEq, Repr

/-- The set of hold causes (R51). -/
structure Causes where
  line : Bool := false
  command : Bool := false
  motion : Bool := false
  exit : Bool := false
  event : Bool := false
  deriving DecidableEq, Repr

/-- The step sub-state, with the base ticks that its timer still has to count (R25): the timer of
the sub-state is the only one that runs, with the interval that stood when it was started. -/
inductive StepState where
  | idle
  | exitWait (left : Nat)
  | advancing (left : Nat)
  | settling (left : Nat)
  | suspended
  deriving DecidableEq, Repr

/-- The track controller (02, 03). A slot holds a rod ID or a gap; the track length L is the number
of slots. The levels of the input lines HOLD and ADVANCE DONE are kept here (R32, R49, R52). -/
structure TrackControl where
  slots : List (Option Nat)
  motion : Motion
  causes : Causes
  step : StepState
  owed : Bool
  cadenceCount : Nat
  cadenceCompare : Nat
  settleInterval : Nat
  advanceLimit : Nat
  exitWaitLimit : Nat
  stepNumber : Word32
  holdLine : Bool
  advanceDoneLine : Bool
  deriving DecidableEq, Repr

/-! ## Zone monitor -/

/-- The state of a zone (R96). -/
inductive ZoneState where
  | off
  | awaiting
  | reporting
  | stale
  deriving DecidableEq, Repr

/-- The class of a climate report (R106). -/
inductive ReportClass where
  | ok
  | minor
  | major
  deriving DecidableEq, Repr

/-- A climate report: the four operands of an accepted CLIMATE (R91). -/
structure Report where
  format : Nat
  temperature : Nat
  humidity : Nat
  doseRate : Nat
  deriving DecidableEq, Repr

/-- A zone channel (R91). -/
structure ZoneChannel where
  base : Nat
  limit : Nat
  state : ZoneState
  governing : Option Nat
  report : Option Report
  reportClass : ReportClass
  staleness : Nat
  changed : Bool
  boundLink : Option Link
  deriving DecidableEq, Repr

/-- The zone monitor: eight channels and the staleness limit (R91, R92). -/
structure ZoneMonitor where
  channels : Vector ZoneChannel 8
  stalenessLimit : Nat
  deriving DecidableEq, Repr

/-! ## Exposure unit -/

/-- The exposure unit (R114, R116). -/
structure Exposure where
  interval : Nat
  counter : Nat
  tick : Word32
  deriving DecidableEq, Repr

/-! ## Authority unit -/

/-- The three claims (R144). -/
inductive ClaimKind where
  | changeover
  | purge
  | reconfigure
  deriving DecidableEq, Repr

/-- The holder of each claim (R144). -/
structure Claims where
  changeover : Option Link
  purge : Option Link
  reconfigure : Option Link
  deriving DecidableEq, Repr

/-- The drying schedule of a format for one zone (R101). -/
structure ZoneSchedule where
  temperature : Nat
  temperatureTolerance : Nat
  temperatureLimit : Nat
  humidity : Nat
  humidityTolerance : Nat
  humidityLimit : Nat
  deriving DecidableEq, Repr

/-- A defined entry of the format table (R77, R101, R133, R159). -/
structure FormatEntry where
  dryingClass : Nat
  leadGap : Nat
  doseMinimum : Nat
  doseMaximum : Nat
  tolerance : Nat
  schedules : Vector ZoneSchedule 8
  deriving DecidableEq, Repr

/-- The authority unit: claims, drain, configuration lock, and the format table, entry n - 1 of
which is format n (R144, R150, R155). -/
structure Authority where
  claims : Claims
  drain : Bool
  lock : Bool
  formats : Vector (Option FormatEntry) 16
  deriving DecidableEq, Repr

/-! ## Event router -/

/-- The twelve event classes in class-number order (R163). -/
inductive EventClass where
  | devMinor
  | devMajor
  | zoneStale
  | motionFault
  | lateAdvance
  | strayAdvance
  | exitBlocked
  | cadenceOverrun
  | chainFault
  | quarantine
  | admissionGap
  | linkFault
  deriving DecidableEq, Repr

/-- The destinations of the routing table (R164). -/
inductive Destination where
  | nowhere
  | note
  | horn
  | stop
  deriving DecidableEq, Repr

/-- A set of event classes: class number n is at index n - 1 (R167). -/
abbrev EventSet := Vector Bool 12

/-- A capture record (R170). -/
structure CaptureRecord where
  reportClass : ReportClass
  governing : Nat
  temperature : Nat
  humidity : Nat
  temperatureSetpoint : Nat
  humiditySetpoint : Nat
  tick : Word32
  stepNumber : Word32
  deriving DecidableEq, Repr

/-- The deviation capture of a zone with its two flags (R170). -/
structure Capture where
  record : Option CaptureRecord
  minorSeen : Bool
  majorSeen : Bool
  deriving DecidableEq, Repr

/-- The event router: routes by class, horn request, the pending-note set of each link (used on
links of class SUPERVISOR), and the captures by zone (R164, R166, R167, R170). -/
structure Router where
  routes : Vector Destination 12
  horn : Bool
  notes : Vector EventSet 12
  captures : Vector Capture 8
  deriving DecidableEq, Repr

/-! ## Link unit -/

/-- The class of a link (R174). -/
inductive StationClass where
  | unbound
  | supervisor
  | spreader
  | stripper
  | zone (n : Zone)
  deriving DecidableEq, Repr

/-- The reasons of a refusal, in the order of their status codes 81h to 90h (R176). -/
inductive Reason where
  | class_
  | tier
  | state
  | locked
  | claim
  | claimedElsewhere
  | full
  | duplicate
  | notFound
  | wrongFormat
  | noLot
  | range
  | mismatch
  | tooLate
  | scheduleChanged
  | notReady
  deriving DecidableEq, Repr

/-- The status of a response (R176). -/
inductive Status where
  | accepted
  | data
  | empty
  | noSchedule
  | refused (reason : Reason)
  deriving DecidableEq, Repr

/-- The record spaces, in the order of their codes 0 to 10 (R181). -/
inductive Space where
  | ident
  | motion
  | track
  | zone
  | format
  | staging
  | exit
  | rod
  | lot
  | capture
  | claims
  deriving DecidableEq, Repr

/-- A cursor that is not cleared (R181). -/
structure Cursor where
  space : Space
  index : Nat
  deriving DecidableEq, Repr

/-- The frames that the part sends (R176); a payload and a record are bytes in the layouts of R180
and R184. -/
inductive Frame where
  | response (status : Status) (attention : Bool) (payload : List Byte)
  | record (space : Space) (index : Nat) (body : List Byte)
  | trailer (sent : Nat)
  deriving DecidableEq, Repr

/-- A stream: the records it may still send, its advance flag, and the records it has sent (R182). -/
structure StreamJob where
  left : Nat
  advance : Bool
  sent : Nat
  deriving DecidableEq, Repr

/-- The receiver of a link; in BODY with the base ticks since the last byte of the frame and the bytes
collected after its opening mark, the command code first (R177; log entry 12). -/
inductive Receiver where
  | hunt
  | body (gap : Nat) (bytes : List Byte)
  deriving DecidableEq, Repr

/-- The transmitter of a link; RESPONDING carries the stream that follows an accepted READ (R178). -/
inductive Transmitter where
  | idle
  | responding (next : Option StreamJob)
  | streaming (job : StreamJob)
  deriving DecidableEq, Repr

/-- The last error of a link (R179). -/
inductive LastError where
  | clear
  | link (error : LinkError)
  | bindConflict
  | refusal (reason : Reason)
  deriving DecidableEq, Repr

/-- A link channel (R174 to R185). `contended` says that the transmission in progress has latched
its CONTENTION (R178); `spacing` that the line has not returned to marking since a break (R185);
`sent` holds the frames last given to the transmitter, oldest first (the model's own field). -/
structure LinkChannel where
  class_ : StationClass
  receiver : Receiver
  transmitter : Transmitter
  contended : Bool
  spacing : Bool
  cursor : Option Cursor
  quiet : Bool
  lastError : LastError
  sent : List Frame
  deriving DecidableEq, Repr

/-! ## The whole part -/

/-- The state of the part and the queue of commands that wait, first in, first out. -/
structure State where
  registry : Registry
  admission : Admission
  track : TrackControl
  zones : ZoneMonitor
  exposure : Exposure
  exitQueue : List Nat
  authority : Authority
  router : Router
  links : Vector LinkChannel 12
  pending : List Instr
  deriving DecidableEq, Repr

/-- Reasons for which the part stops. The spec gives none: every refusal is an answer to a station
and every discarded frame a latch. So the type has no constructor. -/
inductive Fault where
  deriving DecidableEq, Repr

/-- Reasons for which the model gives a command no meaning. -/
inductive Refusal where
  /-- Raised only by an arm of `exec` that has no meaning yet; no arm raises it. Safe: it stops
  where the part goes on. -/
  | notModelled (mnemonic : String)
  deriving DecidableEq, Repr

/-- What a command answers. -/
abbrev Result := Host.Outcome State Fault Refusal

/-! ## After device reset -/

/-- A zone channel after device reset, before binding (R92). -/
def ZoneChannel.reset : ZoneChannel :=
  { base := 1, limit := 0, state := .off, governing := none, report := none, reportClass := .ok,
    staleness := 0, changed := false, boundLink := none }

/-- A link channel after device reset, before binding (R186). -/
def LinkChannel.reset : LinkChannel :=
  { class_ := .unbound, receiver := .hunt, transmitter := .idle, contended := false,
    spacing := false, cursor := none, quiet := false, lastError := .clear, sent := [] }

/-- The routing table after device reset, by class number (R164). -/
def defaultRoutes : Vector Destination 12 :=
  #v[.note, .horn, .note, .horn, .note, .nowhere, .horn, .note, .note, .note, .nowhere, .note]

/-- The track controller after device reset (R47), with the levels of its input lines. -/
def TrackControl.reset (holdLine advanceDoneLine : Bool) : TrackControl :=
  { slots := [], motion := .stopped, causes := {}, step := .idle, owed := false,
    cadenceCount := 0, cadenceCompare := 0, settleInterval := Config.resetSettle,
    advanceLimit := Config.resetAdvanceLimit, exitWaitLimit := Config.resetExitWaitLimit,
    stepNumber := 0, holdLine := holdLine, advanceDoneLine := advanceDoneLine }

/-- The part right after device reset. DESIGN CHOICE (log entries 1 and 2): all straps read 0h, so
every link is UNBOUND, and the HOLD and ADVANCE DONE lines are negated; a DEVICE_RESET command
brings the straps of a hall. -/
def State.reset : State :=
  { registry := { rods := [], lots := Vector.replicate 32 none }
    admission := { staging := [], boarding := .empty, running := none, mode := .open_, trailing := 0 }
    track := TrackControl.reset false false
    zones := { channels := Vector.replicate 8 ZoneChannel.reset
               stalenessLimit := Config.resetStalenessLimit }
    exposure := { interval := 0, counter := 0, tick := 0 }
    exitQueue := []
    authority := { claims := { changeover := none, purge := none, reconfigure := none }
                   drain := false, lock := false, formats := Vector.replicate 16 none }
    router := { routes := defaultRoutes, horn := false
                notes := Vector.replicate 12 (Vector.replicate 12 false)
                captures := Vector.replicate 8 { record := none, minorSeen := false, majorSeen := false } }
    links := Vector.replicate 12 LinkChannel.reset
    pending := [] }

end Sys2Proof.Machine
end

