-- ==== Sys2Proof/Machine/Flags.lean ====
section
/-! DEFINITION. The sets and flags of the part: marks and grades, hold causes, pending notes,
enabled zones, the levels of the output lines, tiers. -/

namespace Sys2Proof.Machine

/-! ## Marks and grade -/

/-- Whether a mark is in a set of marks. -/
def Marks.has (m : Marks) : Mark → Bool
  | .minorExposure => m.minorExposure
  | .majorExposure => m.majorExposure
  | .unmonitored => m.unmonitored
  | .offSchedule => m.offSchedule
  | .lateShift => m.lateShift
  | .lotHeld => m.lotHeld
  | .chainFault => m.chainFault

/-- The set with a mark put in (R5). -/
def Marks.insert (m : Marks) : Mark → Marks
  | .minorExposure => { m with minorExposure := true }
  | .majorExposure => { m with majorExposure := true }
  | .unmonitored => { m with unmonitored := true }
  | .offSchedule => { m with offSchedule := true }
  | .lateShift => { m with lateShift := true }
  | .lotHeld => { m with lotHeld := true }
  | .chainFault => { m with chainFault := true }

/-- The marks in the order of the rod record's field table. -/
def allMarks : List Mark :=
  [.minorExposure, .majorExposure, .unmonitored, .offSchedule, .lateShift, .lotHeld, .chainFault]

/-- The place of a grade in the rising order CLEAN, NOTED, SUSPECT, BARRED. -/
def Grade.level : Grade → Nat
  | .clean => 0
  | .noted => 1
  | .suspect => 2
  | .barred => 3

/-- The higher of two grades. -/
def Grade.max (a b : Grade) : Grade := if a.level < b.level then b else a

/-- The grade that a mark requires (01 section 1.2). -/
def Mark.grade : Mark → Grade
  | .minorExposure => .noted
  | .lateShift => .noted
  | .majorExposure => .suspect
  | .unmonitored => .suspect
  | .offSchedule => .suspect
  | .lotHeld => .barred
  | .chainFault => .barred

/-- The highest grade that any mark of a set requires, CLEAN for the empty set (R5). -/
def Marks.grade (m : Marks) : Grade :=
  allMarks.foldl (fun g k => if m.has k then g.max k.grade else g) .clean

/-! ## Hold causes -/

/-- Whether a cause is in the set. -/
def Causes.has (c : Causes) : Cause → Bool
  | .line => c.line
  | .command => c.command
  | .motion => c.motion
  | .exit => c.exit
  | .event => c.event

/-- The set with a cause put in (R51). -/
def Causes.insert (c : Causes) : Cause → Causes
  | .line => { c with line := true }
  | .command => { c with command := true }
  | .motion => { c with motion := true }
  | .exit => { c with exit := true }
  | .event => { c with event := true }

/-! ## Event sets -/

/-- The index of a class in tables ordered by class number: the class number less one (R163). -/
def EventClass.index : EventClass → Fin 12
  | .devMinor => 0
  | .devMajor => 1
  | .zoneStale => 2
  | .motionFault => 3
  | .lateAdvance => 4
  | .strayAdvance => 5
  | .exitBlocked => 6
  | .cadenceOverrun => 7
  | .chainFault => 8
  | .quarantine => 9
  | .admissionGap => 10
  | .linkFault => 11

/-- The empty set of event classes. -/
def noEvents : EventSet := Vector.replicate 12 false

/-- The class numbers in a set, rising (R167). -/
def classNumbers (e : EventSet) : List Nat :=
  ((List.finRange 12).filter fun i => e[i]).map fun i => i.val + 1

/-! ## Links -/

/-- The tier of a class (R175). -/
def StationClass.tier : StationClass → Nat
  | .supervisor => 0
  | .spreader => 1
  | .stripper => 1
  | .zone _ => 2
  | .unbound => 3

/-! ## Zones -/

/-- A window is enabled when its base is at or below its limit (R93). -/
def ZoneChannel.enabled (c : ZoneChannel) : Bool := decide (c.base ≤ c.limit)

/-- Whether a position lies in an enabled window (R93). -/
def ZoneChannel.covers (c : ZoneChannel) (p : Nat) : Bool :=
  decide (c.base ≤ p) && decide (p ≤ c.limit)

/-! ## Output lines -/

/-- ADVANCE is asserted exactly while the step is ADVANCING (R31). -/
def TrackControl.advanceLine (t : TrackControl) : Bool :=
  match t.step with
  | .advancing _ => true
  | _ => false

/-- LINESTOP is asserted exactly while the motion state is HOLDING or HELD (R63). -/
def TrackControl.lineStop (t : TrackControl) : Bool :=
  match t.motion with
  | .stopped => false
  | .running => false
  | .holding => true
  | .held => true

/-- The HORN line is asserted while the horn request is set (R166). -/
def Router.hornLine (r : Router) : Bool := r.horn

/-- The attention of a response on a link, from the state in which the response is sent: on a
SUPERVISOR link whether its pending-note set is not empty, on a ZONE link the zone's
schedule-changed flag, elsewhere clear (R102, R168). -/
def State.attention (s : State) (link : Link) : Bool :=
  match s.links[link].class_ with
  | .supervisor => (List.finRange 12).any fun i => s.router.notes[link][i]
  | .zone n => s.zones.channels[n].changed
  | .spreader => false
  | .stripper => false
  | .unbound => false

end Sys2Proof.Machine
end

