-- ==== Sys2Proof/Machine/Operands.lean ====
section
/-! DEFINITION. The operand forms of requests: enumerations and flags by their codes, numbers by
their ranges (R180). A code outside its enumeration reads as `none`, which the owning rule refuses
RANGE. -/

namespace Sys2Proof.Machine

/-- A flag: 00h for no or off, 01h for yes or on (R180). -/
def flagOf (b : Byte) : Option Bool :=
  match b.toNat with
  | 0 => some false
  | 1 => some true
  | _ => none

/-- Claim kinds: CHANGEOVER 0, PURGE 1, RECONFIGURE 2 (R180). -/
def claimKindOf (b : Byte) : Option ClaimKind :=
  match b.toNat with
  | 0 => some .changeover
  | 1 => some .purge
  | 2 => some .reconfigure
  | _ => none

/-- Destinations: NONE 0, NOTE 1, HORN 2, STOP 3 (R180). -/
def destinationOf (b : Byte) : Option Destination :=
  match b.toNat with
  | 0 => some .nowhere
  | 1 => some .note
  | 2 => some .horn
  | 3 => some .stop
  | _ => none

/-- An event class by its number 1 to 12 (R163). -/
def eventClassOf (b : Byte) : Option EventClass :=
  match b.toNat with
  | 1 => some .devMinor
  | 2 => some .devMajor
  | 3 => some .zoneStale
  | 4 => some .motionFault
  | 5 => some .lateAdvance
  | 6 => some .strayAdvance
  | 7 => some .exitBlocked
  | 8 => some .cadenceOverrun
  | 9 => some .chainFault
  | 10 => some .quarantine
  | 11 => some .admissionGap
  | 12 => some .linkFault
  | _ => none

/-- A record space by its code 0 to 10 (R181). -/
def spaceOf (b : Byte) : Option Space :=
  match b.toNat with
  | 0 => some .ident
  | 1 => some .motion
  | 2 => some .track
  | 3 => some .zone
  | 4 => some .format
  | 5 => some .staging
  | 6 => some .exit
  | 7 => some .rod
  | 8 => some .lot
  | 9 => some .capture
  | 10 => some .claims
  | _ => none

/-- A zone number 0 to 7. -/
def zoneOf (b : Byte) : Option Zone :=
  if h : b.toNat < 8 then some ⟨b.toNat, h⟩ else none

/-- A format number is 1 to 16 (00_scope). -/
def isFormatNumber (n : Nat) : Bool := decide (1 ≤ n) && decide (n ≤ 16)

/-- A number within a range, both ends included. -/
def inRange (lo hi n : Nat) : Bool := decide (lo ≤ n) && decide (n ≤ hi)

/-- The configured values that SET_INTERVAL selects, SETTLE 0 to STALENESS_LIMIT 4 (R160, R180). -/
inductive Interval where
  | settle
  | advanceLimit
  | exitWaitLimit
  | exposure
  | stalenessLimit
  deriving DecidableEq, Repr

/-- The selector of SET_INTERVAL (R180). -/
def intervalOf (b : Byte) : Option Interval :=
  match b.toNat with
  | 0 => some .settle
  | 1 => some .advanceLimit
  | 2 => some .exitWaitLimit
  | 3 => some .exposure
  | 4 => some .stalenessLimit
  | _ => none

/-- The range of each configured value (R155). -/
def intervalInRange : Interval → Nat → Bool
  | .settle, n => inRange 0 255 n
  | .advanceLimit, n => inRange 1 255 n
  | .exitWaitLimit, n => inRange 1 65535 n
  | .exposure, n => inRange 0 65535 n
  | .stalenessLimit, n => inRange 1 255 n

/-! ## The entry of SET_FORMAT -/

/-- The schedule that an operand spells. -/
def scheduleOf (z : ScheduleOperand) : ZoneSchedule :=
  { temperature := z.temperature.toNat
    temperatureTolerance := z.temperatureTolerance.toNat
    temperatureLimit := z.temperatureLimit.toNat
    humidity := z.humidity.toNat
    humidityTolerance := z.humidityTolerance.toNat
    humidityLimit := z.humidityLimit.toNat }

/-- The format entry that the operands of SET_FORMAT spell. -/
def formatEntryOf (f : FormatOperand) : FormatEntry :=
  { dryingClass := f.dryingClass.toNat
    leadGap := f.leadGap.toNat
    doseMinimum := f.doseMinimum.toNat
    doseMaximum := f.doseMaximum.toNat
    tolerance := f.tolerance.toNat
    schedules := Vector.ofFn fun z : Zone => scheduleOf f.schedules[z] }

/-- The ranges and the band ordering of one zone's schedule (R101). -/
def scheduleInRange (z : ZoneSchedule) : Bool :=
  inRange 200 1100 z.temperature && inRange 0 100 z.temperatureTolerance &&
  inRange 0 200 z.temperatureLimit && decide (z.temperatureTolerance ≤ z.temperatureLimit) &&
  inRange 10 95 z.humidity && inRange 0 20 z.humidityTolerance &&
  inRange 0 40 z.humidityLimit && decide (z.humidityTolerance ≤ z.humidityLimit)

/-- The ranges of a format entry, its band ordering and its dose ordering (R159). -/
def formatEntryInRange (f : FormatEntry) : Bool :=
  inRange 0 7 f.dryingClass && inRange 0 255 f.leadGap &&
  inRange 0 Config.doseMax f.doseMinimum && inRange 0 Config.doseMax f.doseMaximum &&
  decide (f.doseMinimum ≤ f.doseMaximum) && inRange 0 255 f.tolerance &&
  (List.finRange 8).all fun z => scheduleInRange f.schedules[z]

end Sys2Proof.Machine
end

