-- ==== Sys2Proof/Machine/Ops.lean ====
section
/-! DEFINITION. The shared operations over the tables of the part: rod records, lots with the
freeing cascade and the chain resolution, the format table, the motion state with its hold causes,
and the routing of events. -/

namespace Sys2Proof.Machine

/-! ## The rod table -/

/-- The record of a rod ID, if there is one. -/
def findRod (rods : List RodRecord) (id : Nat) : Option RodRecord :=
  rods.find? fun r => r.id == id

/-- The table with a record put in at its place in the order of rod IDs. -/
def insertRod (r : RodRecord) : List RodRecord → List RodRecord
  | [] => [r]
  | x :: xs =>
    if r.id < x.id then r :: x :: xs
    else if r.id = x.id then r :: xs
    else x :: insertRod r xs

/-- The table without the record of a rod ID (R4). -/
def eraseRod (id : Nat) (rods : List RodRecord) : List RodRecord :=
  rods.filter fun r => r.id != id

/-- The table with the record of a rod ID changed. -/
def updateRod (id : Nat) (change : RodRecord → RodRecord) (rods : List RodRecord) :
    List RodRecord :=
  rods.map fun r => if r.id = id then change r else r

/-- The record of a rod ID in the part. -/
def State.rod (s : State) (id : Nat) : Option RodRecord := findRod s.registry.rods id

/-- The part with its rod table changed. -/
def State.mapRods (s : State) (change : List RodRecord → List RodRecord) : State :=
  { s with registry := { s.registry with rods := change s.registry.rods } }

/-- Adding a mark puts it in the set and raises the grade to what the mark requires; a mark already
there changes nothing (R5). -/
def RodRecord.addMark (m : Mark) (r : RodRecord) : RodRecord :=
  if r.marks.has m then r
  else { r with marks := r.marks.insert m, grade := r.grade.max m.grade }

/-! ## The lot table -/

/-- Whether an entry holds the OPEN lot. -/
def isOpenLot : Option Lot → Bool
  | some l => decide (l.status = .opened)
  | none => false

/-- The index of the OPEN lot; at most one lot is OPEN (R7). -/
def openLotIndex (lots : LotTable) : Option (Fin 32) :=
  (List.finRange 32).find? fun i => isOpenLot lots[i]

/-- The index of the entry that is not FREE and carries a lot number (R7). -/
def lotIndexOf (lots : LotTable) (number : Nat) : Option (Fin 32) :=
  (List.finRange 32).find? fun i =>
    match lots[i] with
    | some l => l.number == number
    | none => false

/-- The lowest FREE entry (R11). -/
def lowestFree (lots : LotTable) : Option (Fin 32) :=
  (List.finRange 32).find? fun i => lots[i].isNone

/-- The table with one entry changed; a FREE entry stays FREE. -/
def changeLot (lots : LotTable) (i : Fin 32) (change : Lot → Lot) : LotTable :=
  lots.set i (lots[i].map change)

/-- CLOSED with rod count 0 and referrer count 0: the condition of freeing (R10). -/
def Lot.isSpent (l : Lot) : Bool :=
  decide (l.status = .closed) && decide (l.rodCount = 0) && decide (l.referrers = 0)

/-- The freeing cascade from an entry: an entry that is spent becomes FREE, its forward's referrer
count falls by one, and the same rule runs from there. Each turn frees a different entry, so
`turns` of 32 are enough (R10). -/
def freeCascade : (turns : Nat) → Fin 32 → LotTable → LotTable
  | 0, _, lots => lots
  | turns + 1, i, lots =>
    match lots[i] with
    | none => lots
    | some l =>
      if l.isSpent then
        match l.forward with
        | none => lots.set i none
        | some f =>
          freeCascade turns f
            (changeLot (lots.set i none) f fun g => { g with referrers := g.referrers - 1 })
      else lots

/-- Frees an entry if it is spent, with the whole cascade (R10). -/
def freeIfSpent (lots : LotTable) (i : Fin 32) : LotTable := freeCascade 32 i lots

/-- The OPEN lot closed, and freed if it is spent (R11, R12). -/
def closeLotAt (lots : LotTable) (i : Fin 32) : LotTable :=
  freeIfSpent (changeLot lots i fun l => { l with status := .closed }) i

/-- The part with its lot table changed. -/
def State.mapLots (s : State) (change : LotTable → LotTable) : State :=
  { s with registry := { s.registry with lots := change s.registry.lots } }

/-- Deletion of a rod record: the record leaves the table, its lot's rod count falls by one, and
the lot may be freed with its cascade (R4, R9, R10). -/
def State.deleteRod (s : State) (id : Nat) : State :=
  match s.rod id with
  | none => s
  | some r =>
    { s with registry :=
        { rods := eraseRod id s.registry.rods
          lots := freeIfSpent
            (changeLot s.registry.lots r.lot fun l => { l with rodCount := l.rodCount - 1 }) r.lot } }

/-! ## Lot chain resolution -/

/-- The result of a lot chain resolution (R17). -/
inductive ChainResult where
  | clear
  | lotHeld
  | chainFault
  deriving DecidableEq, Repr

/-- The entries that a walk visits, at most `visits` of them, from an entry along its forwards; an
entry reached again counts again (R17, rule 2). -/
def visitedLots (lots : LotTable) : (visits : Nat) → Fin 32 → List Lot
  | 0, _ => []
  | visits + 1, i =>
    match lots[i] with
    | none => []
    | some l =>
      match l.forward with
      | none => [l]
      | some f => l :: visitedLots lots visits f

/-- Lot chain resolution: LOT_HELD when a visited entry is held, otherwise CHAIN_FAULT when five
entries were visited and the fifth still has a forward, otherwise clear (R17). -/
def resolveChain (lots : LotTable) (i : Fin 32) : ChainResult :=
  let visited := visitedLots lots Config.chainVisits i
  if visited.any (·.held) then .lotHeld
  else if visited.length = Config.chainVisits ∧
      (visited.getLast?.bind (·.forward)).isSome then .chainFault
  else .clear

/-- The mark that a resolution adds (R18). -/
def ChainResult.mark : ChainResult → Option Mark
  | .clear => none
  | .lotHeld => some .lotHeld
  | .chainFault => some .chainFault

/-- The events that a resolution raises (R18). -/
def ChainResult.events : ChainResult → List EventClass
  | .clear => []
  | .lotHeld => []
  | .chainFault => [.chainFault]

/-- The rod with the mark that a resolution adds. -/
def RodRecord.applyResolution (c : ChainResult) (r : RodRecord) : RodRecord :=
  match c.mark with
  | none => r
  | some m => r.addMark m

/-! ## The format table -/

/-- The fields of an undefined format read as 0 (R159). -/
def ZoneSchedule.zero : ZoneSchedule :=
  { temperature := 0, temperatureTolerance := 0, temperatureLimit := 0, humidity := 0,
    humidityTolerance := 0, humidityLimit := 0 }

/-- The fields of an undefined format read as 0 (R159). -/
def FormatEntry.zero : FormatEntry :=
  { dryingClass := 0, leadGap := 0, doseMinimum := 0, doseMaximum := 0, tolerance := 0,
    schedules := Vector.replicate 8 ZoneSchedule.zero }

/-- The table index of a format number 1 to 16. -/
def formatIndex (n : Nat) : Option (Fin 16) :=
  if h : 1 ≤ n ∧ n ≤ 16 then some ⟨n - 1, by omega⟩ else none

/-- The entry of a format number, if it is defined. -/
def State.format (s : State) (n : Nat) : Option FormatEntry :=
  (formatIndex n).bind fun i => s.authority.formats[i]

/-- The fields of a format number as they read (R159). -/
def State.formatFields (s : State) (n : Nat) : FormatEntry :=
  (s.format n).getD FormatEntry.zero

/-! ## The motion state -/

/-- Entry to HELD: the owed flag clears and the cadence counter returns to 0 and stops (R51). -/
def TrackControl.enterHeld (t : TrackControl) : TrackControl :=
  { t with motion := .held, owed := false, cadenceCount := 0 }

/-- Entry to HOLDING: the owed flag clears (R51). -/
def TrackControl.enterHolding (t : TrackControl) : TrackControl :=
  { t with motion := .holding, owed := false }

/-- Entry to STOPPED: the hold causes empty, the owed flag clears and the cadence counter returns
to 0 and stops (R62). -/
def TrackControl.enterStopped (t : TrackControl) : TrackControl :=
  { t with motion := .stopped, causes := {}, owed := false, cadenceCount := 0 }

/-- Adding a hold cause. In RUNNING the hold reaches the step in progress: IDLE, SETTLING and
EXIT_WAIT become IDLE with the motion state HELD, ADVANCING goes on in HOLDING; in HOLDING and HELD
the cause joins the set; in STOPPED none is added (R36, R51). RUNNING does not meet SUSPENDED. -/
def TrackControl.addCause (c : Cause) (t : TrackControl) : TrackControl :=
  if t.causes.has c then t
  else
    match t.motion with
    | .stopped => t
    | .running =>
      match t.step with
      | .idle => { t with causes := t.causes.insert c }.enterHeld
      | .settling _ => { t with causes := t.causes.insert c, step := .idle }.enterHeld
      | .exitWait _ => { t with causes := t.causes.insert c, step := .idle }.enterHeld
      | .advancing _ => { t with causes := t.causes.insert c }.enterHolding
      | .suspended => { t with causes := t.causes.insert c }.enterHeld
    | .holding => { t with causes := t.causes.insert c }
    | .held => { t with causes := t.causes.insert c }

/-- Whether the track holds no rod. -/
def TrackControl.isEmpty (t : TrackControl) : Bool := t.slots.all (·.isNone)

/-- The track length L (R21). -/
def TrackControl.length (t : TrackControl) : Nat := t.slots.length

/-- The content of the slot at position L - 1. -/
def TrackControl.lastSlot (t : TrackControl) : Option Nat := t.slots.getLast?.join

/-- The part with its track controller changed. -/
def State.mapTrack (s : State) (change : TrackControl → TrackControl) : State :=
  { s with track := change s.track }

/-! ## Events -/

/-- A class joins the pending-note set of every link bound as SUPERVISOR (R165, R167). -/
def State.joinNotes (c : EventClass) (s : State) : State :=
  { s with router := { s.router with
      notes := Vector.ofFn fun l : Link =>
        if s.links[l].class_ = .supervisor then s.router.notes[l].set c.index true
        else s.router.notes[l] } }

/-- The horn request is set (R166). -/
def State.soundHorn (s : State) : State := { s with router := { s.router with horn := true } }

/-- The router applies the destination of a raised class; the effects of each destination include
those of the one before it (R165). -/
def State.route (s : State) (c : EventClass) : State :=
  match s.router.routes[c.index] with
  | .nowhere => s
  | .note => s.joinNotes c
  | .horn => (s.joinNotes c).soundHorn
  | .stop => ((s.joinNotes c).soundHorn).mapTrack (TrackControl.addCause .event)

/-- Raises made within one change reach the router after it, in the order in which they were made;
the outcome is the same in either order (R55, R163). -/
def State.routeAll (s : State) (raised : List EventClass) : State :=
  raised.foldl State.route s

end Sys2Proof.Machine
end

