-- ==== Sys2Proof/Machine/ClaimOps.lean ====
section
/-! DEFINITION. The shared operations of the authority unit: claims, the loss of a claim with its
consequences, the completion of a drain, and the lock and claim checks of configuration edits. -/

namespace Sys2Proof.Machine

/-- The holder of a claim (R144). -/
def Claims.holder (c : Claims) : ClaimKind → Option Link
  | .changeover => c.changeover
  | .purge => c.purge
  | .reconfigure => c.reconfigure

/-- The claim table with one holder written. -/
def Claims.setHolder (c : Claims) (k : ClaimKind) (holder : Option Link) : Claims :=
  match k with
  | .changeover => { c with changeover := holder }
  | .purge => { c with purge := holder }
  | .reconfigure => { c with reconfigure := holder }

/-- The part with the authority unit changed. -/
def State.mapAuthority (s : State) (change : Authority → Authority) : State :=
  { s with authority := change s.authority }

/-- The part with the holder of a claim written. -/
def State.setHolder (s : State) (k : ClaimKind) (holder : Option Link) : State :=
  s.mapAuthority fun a => { a with claims := a.claims.setHolder k holder }

/-- Whether a link holds a claim. -/
def State.holds (s : State) (link : Link) (k : ClaimKind) : Bool :=
  decide (s.authority.claims.holder k = some link)

/-- The part with its admission mode written. -/
def State.setMode (s : State) (mode : AdmissionMode) : State :=
  { s with admission := { s.admission with mode := mode } }

/-- Cancellation of a changeover: the mode becomes OPEN and the pending format and the required gap
are cleared; everything else of admission stands (R83, R84). -/
def State.cancelPending (s : State) : State :=
  match s.admission.mode with
  | .changeover _ _ => s.setMode .open_
  | .open_ => s
  | .closed => s

/-- Cancellation of a drain: no drain is in progress and the mode becomes OPEN (R153). -/
def State.cancelDrain (s : State) : State :=
  if s.authority.drain then (s.mapAuthority fun a => { a with drain := false }).setMode .open_
  else s

/-- The end of a claim by RELEASE or a break, with the effect at the block that owns its work
(R147, R148). -/
def State.loseClaim (s : State) (k : ClaimKind) : State :=
  match k with
  | .changeover => (s.setHolder .changeover none).cancelPending
  | .purge => (s.setHolder .purge none).cancelDrain
  | .reconfigure => s.setHolder .reconfigure none

/-- A claim lost if the link holds it. -/
def State.loseClaimOf (s : State) (link : Link) (k : ClaimKind) : State :=
  if s.holds link k then s.loseClaim k else s

/-- A break releases every claim that the link holds (R185). -/
def State.loseClaimsOf (s : State) (link : Link) : State :=
  ((s.loseClaimOf link .changeover).loseClaimOf link .purge).loseClaimOf link .reconfigure

/-- Completion of a drain: no drain is in progress, the PURGE claim is released, the motion state
becomes STOPPED, and the mode stays CLOSED (R152). -/
def State.completeDrain (s : State) : State :=
  ((s.mapAuthority fun a => { a with drain := false }).setHolder .purge none).mapTrack
    TrackControl.enterStopped

/-- The check for the completion of a drain: one in progress completes when the track holds no rod
(R151). -/
def State.checkDrain (s : State) : State :=
  if s.authority.drain ∧ s.track.isEmpty = true then s.completeDrain else s

/-- The classes that may hold a claim (R144). -/
def ClaimKind.permits : ClaimKind → StationClass → Bool
  | .changeover, .supervisor => true
  | .changeover, .spreader => true
  | .purge, .supervisor => true
  | .reconfigure, .supervisor => true
  | _, _ => false

/-- The condition under which a claim is granted (R145). -/
def State.grantable (s : State) : ClaimKind → Bool
  | .changeover => decide (s.admission.mode = .open_) && s.authority.claims.purge.isNone
  | .purge =>
    (match s.admission.mode with
      | .changeover _ _ => false
      | .open_ => true
      | .closed => true) && s.authority.claims.changeover.isNone
  | .reconfigure => decide (s.track.motion = .stopped) && decide (s.track.step = .idle)

/-- The grant of a claim; granting RECONFIGURE also clears the lock (R146). -/
def State.grant (s : State) (link : Link) (k : ClaimKind) : State :=
  match k with
  | .changeover => s.setHolder .changeover (some link)
  | .purge => s.setHolder .purge (some link)
  | .reconfigure =>
    (s.setHolder .reconfigure (some link)).mapAuthority fun a => { a with lock := false }

/-- The two checks that every configuration edit and LOCK_CONFIG pass first: LOCKED while the lock
is set, then CLAIM from a link that does not hold RECONFIGURE (R156, R157). -/
def State.editRefusal (s : State) (link : Link) : Option Reason :=
  if s.authority.lock then some .locked
  else if s.holds link .reconfigure then none
  else some .claim

end Sys2Proof.Machine
end

