-- ==== Sys2Proof/Machine/Layouts.lean ====
section
/-! DEFINITION. The bytes of the frames that the part sends: statuses and enumerations by their
codes (R176, R180), the record layouts (R184), the payloads of DATA answers (R180), and the end of
each record space (R181). -/

namespace Sys2Proof.Machine

/-! ## Codes -/

/-- The index of a refusal reason among the status codes 81h to 90h (R176). -/
def Reason.code : Reason → Nat
  | .class_ => 0x81
  | .tier => 0x82
  | .state => 0x83
  | .locked => 0x84
  | .claim => 0x85
  | .claimedElsewhere => 0x86
  | .full => 0x87
  | .duplicate => 0x88
  | .notFound => 0x89
  | .wrongFormat => 0x8A
  | .noLot => 0x8B
  | .range => 0x8C
  | .mismatch => 0x8D
  | .tooLate => 0x8E
  | .scheduleChanged => 0x8F
  | .notReady => 0x90

/-- The code of a status (R176). -/
def Status.code : Status → Nat
  | .accepted => 0x00
  | .data => 0x01
  | .empty => 0x02
  | .noSchedule => 0x03
  | .refused r => r.code

/-- The code of a record space (R181). -/
def Space.code : Space → Nat
  | .ident => 0
  | .motion => 1
  | .track => 2
  | .zone => 3
  | .format => 4
  | .staging => 5
  | .exit => 6
  | .rod => 7
  | .lot => 8
  | .capture => 9
  | .claims => 10

/-- The code of a last error (R179). -/
def LastError.code : LastError → Nat
  | .clear => 0x00
  | .link .parity => 0x01
  | .link .framing => 0x02
  | .link .check => 0x03
  | .link .truncated => 0x04
  | .link .unknown => 0x05
  | .link .contention => 0x06
  | .bindConflict => 0x07
  | .refusal r => r.code

/-- The strap code that LINK_STATUS shows for a class, 0h for UNBOUND (R174, R179). -/
def StationClass.code : StationClass → Nat
  | .unbound => 0x0
  | .supervisor => 0x1
  | .spreader => 0x2
  | .stripper => 0x3
  | .zone n => 0x8 + n.val

/-- A flag as a byte (R180). -/
def flagByte (b : Bool) : Byte := if b then 1 else 0

/-- A number as one byte. -/
def byteOf (n : Nat) : Byte := BitVec.ofNat 8 n

/-- A set coded one bit per member, the first listed in the least significant bit (R184). -/
def bitsByte (members : List Bool) : Byte :=
  byteOf (members.foldr (fun b n => (if b then 1 else 0) + 2 * n) 0)

/-- The set of marks (R184). -/
def Marks.byte (m : Marks) : Byte := bitsByte (allMarks.map m.has)

/-- The set of hold causes (R184). -/
def Causes.byte (c : Causes) : Byte := bitsByte [c.line, c.command, c.motion, c.exit, c.event]

/-- The levels of ADVANCE, ADVANCE DONE, HOLD and LINESTOP (R184). -/
def TrackControl.lineLevels (t : TrackControl) : Byte :=
  bitsByte [t.advanceLine, t.advanceDoneLine, t.holdLine, t.lineStop]

/-- Enumerations by the order in which the manual lists their values (R184). -/
def Motion.code : Motion → Nat
  | .stopped => 0
  | .running => 1
  | .holding => 2
  | .held => 3

def StepState.code : StepState → Nat
  | .idle => 0
  | .exitWait _ => 1
  | .advancing _ => 2
  | .settling _ => 3
  | .suspended => 4

def AdmissionMode.code : AdmissionMode → Nat
  | .open_ => 0
  | .changeover _ _ => 1
  | .closed => 2

def Boarding.code : Boarding → Nat
  | .empty => 0
  | .gap => 1
  | .rod _ => 2

def Place.code : Place → Nat
  | .staged => 0
  | .boarding => 1
  | .onTrack _ _ => 2
  | .exited _ _ _ => 3

def Disposition.code : Disposition → Nat
  | .cut => 0
  | .cutNoted => 1
  | .regrindUnder => 2
  | .regrindOver => 3
  | .quarantine => 4

def ZoneState.code : ZoneState → Nat
  | .off => 0
  | .awaiting => 1
  | .reporting => 2
  | .stale => 3

def ReportClass.code : ReportClass → Nat
  | .ok => 0
  | .minor => 1
  | .major => 2

def Destination.code : Destination → Nat
  | .nowhere => 0
  | .note => 1
  | .horn => 2
  | .stop => 3

/-- The state of a lot entry: FREE 0, OPEN 1, CLOSED 2. -/
def lotStateCode : Option Lot → Nat
  | none => 0
  | some l =>
    match l.status with
    | .opened => 1
    | .closed => 2

/-- An index, a claim holder or a bound link, FFh for none (R184). -/
def indexByte {n : Nat} : Option (Fin n) → Byte
  | none => 0xFF
  | some i => byteOf i.val

/-- A format number, 0 for absent (R184). -/
def formatByte (f : Option Nat) : Byte := byteOf (f.getD 0)

/-- The rod ID in the boarding slot, 0 for none. -/
def Boarding.rodId : Boarding → Nat
  | .rod id => id
  | .gap => 0
  | .empty => 0

/-- The pending format and the required gap, 0 and 0 outside CHANGEOVER (R89). -/
def AdmissionMode.pendingFormat : AdmissionMode → Nat
  | .changeover p _ => p
  | .open_ => 0
  | .closed => 0

def AdmissionMode.requiredGap : AdmissionMode → Nat
  | .changeover _ g => g
  | .open_ => 0
  | .closed => 0

/-! ## Records (R184) -/

/-- IDENT: constants (R183), 11 bytes. -/
def identRecord : List Byte :=
  [byteOf Config.vendorCode, byteOf Config.partCode, byteOf Config.revision, byteOf 12] ++
    beBytes 2 Config.trackMax ++
    [byteOf 8, byteOf 16, byteOf 32, byteOf Config.stagingCapacity, byteOf Config.exitCapacity]

/-- MOTION (R49), 24 bytes. -/
def State.motionRecord (s : State) : List Byte :=
  [byteOf s.track.motion.code, s.track.causes.byte, byteOf s.track.step.code,
    flagByte s.track.owed] ++
  beBytes 2 s.track.cadenceCount ++ beBytes 2 s.track.cadenceCompare ++
  beBytes 4 s.track.stepNumber.toNat ++ beBytes 2 s.track.length ++
  [byteOf s.track.settleInterval, byteOf s.track.advanceLimit] ++
  beBytes 2 s.track.exitWaitLimit ++
  [s.track.lineLevels, byteOf s.admission.boarding.code] ++
  beBytes 2 s.admission.boarding.rodId ++
  [formatByte s.admission.running, byteOf s.admission.mode.pendingFormat]

/-- TRACK at a position (R23), 10 bytes. -/
def State.trackRecord (s : State) (position : Nat) : List Byte :=
  let rod := (s.track.slots[position]?).join.bind s.rod
  beBytes 2 position ++ beBytes 2 (rod.elim 0 (·.id)) ++
  [byteOf (rod.elim 0 (·.format)), byteOf (rod.elim 0 (·.grade.level))] ++
  beBytes 4 s.track.stepNumber.toNat

/-- ZONE (R113, R115), 26 bytes. -/
def State.zoneRecord (s : State) (z : Zone) : List Byte :=
  let c := s.zones.channels[z]
  [byteOf z.val] ++ beBytes 2 c.base ++ beBytes 2 c.limit ++
  [byteOf c.state.code, formatByte c.governing, flagByte c.report.isSome,
    byteOf (c.report.elim 0 (·.format))] ++
  beBytes 2 (c.report.elim 0 (·.temperature)) ++
  [byteOf (c.report.elim 0 (·.humidity)), byteOf (c.report.elim 0 (·.doseRate)),
    byteOf c.reportClass.code, byteOf c.staleness, flagByte c.changed, indexByte c.boundLink,
    byteOf s.zones.stalenessLimit] ++
  beBytes 4 s.exposure.tick.toNat ++ beBytes 2 s.exposure.interval ++
  beBytes 2 s.exposure.counter

/-- The schedule of one zone, 7 bytes. -/
def ZoneSchedule.bytes (z : ZoneSchedule) : List Byte :=
  beBytes 2 z.temperature ++
  [byteOf z.temperatureTolerance, byteOf z.temperatureLimit, byteOf z.humidity,
    byteOf z.humidityTolerance, byteOf z.humidityLimit]

/-- FORMAT (R101), 67 bytes; the fields of an undefined format read as 0 (R159). -/
def State.formatRecord (s : State) (n : Nat) : List Byte :=
  let f := s.formatFields n
  [byteOf n, flagByte (s.format n).isSome, byteOf f.dryingClass, byteOf f.leadGap] ++
  beBytes 3 f.doseMinimum ++ beBytes 3 f.doseMaximum ++ [byteOf f.tolerance] ++
  (List.ofFn fun z : Zone => f.schedules[z].bytes).flatten

/-- STAGING index 0, the admission record (R89), 9 bytes. -/
def State.admissionRecord (s : State) : List Byte :=
  [byteOf s.admission.mode.code, formatByte s.admission.running,
    byteOf s.admission.mode.pendingFormat, byteOf s.admission.mode.requiredGap,
    byteOf s.admission.trailing, byteOf s.admission.boarding.code] ++
  beBytes 2 s.admission.boarding.rodId ++ [byteOf s.admission.staging.length]

/-- The lot number of a rod's own lot entry (R89, R130). -/
def State.lotNumber (s : State) (r : RodRecord) : Nat :=
  s.registry.lots[r.lot].elim 0 (·.number)

/-- STAGING index 1 and up: a staged rod (R89), 10 bytes. -/
def State.stagedRecord (s : State) (id : Nat) : List Byte :=
  match s.rod id with
  | none => beBytes 10 0
  | some r =>
    beBytes 2 r.id ++ beBytes 3 (s.lotNumber r) ++ [byteOf r.format] ++
    beBytes 4 r.hangStep.toNat

/-- The board step of a rod that has boarded, 0 elsewhere (R184). -/
def Place.boardStep : Place → Word32
  | .onTrack _ b => b
  | .exited b _ _ => b
  | .staged => 0
  | .boarding => 0

/-- The exit step and the disposition of an EXITED rod, 0 and CUT's code 0 elsewhere (R184). -/
def Place.exitStep : Place → Word32
  | .exited _ e _ => e
  | .staged => 0
  | .boarding => 0
  | .onTrack _ _ => 0

def Place.dispositionCode : Place → Nat
  | .exited _ _ d => d.code
  | .staged => 0
  | .boarding => 0
  | .onTrack _ _ => 0

/-- The position of an ON_TRACK rod, 0 elsewhere (R184). -/
def Place.position : Place → Nat
  | .onTrack p _ => p
  | .staged => 0
  | .boarding => 0
  | .exited _ _ _ => 0

/-- The exit record of a rod, and the payload of TAKE (R130), 17 bytes. -/
def State.exitRecord (s : State) (id : Nat) : List Byte :=
  match s.rod id with
  | none => beBytes 17 0
  | some r =>
    beBytes 2 r.id ++ beBytes 3 (s.lotNumber r) ++ [byteOf r.format] ++ beBytes 3 r.dose ++
    [byteOf r.offSchedule, byteOf r.grade.level, r.marks.byte, byteOf r.place.dispositionCode] ++
    beBytes 4 r.place.exitStep.toNat

/-- ROD (R20), 26 bytes; every byte 0 is the absent-record marker (R184). -/
def State.rodRecord (s : State) (id : Nat) : List Byte :=
  match s.rod id with
  | none => beBytes 26 0
  | some r =>
    beBytes 2 r.id ++ [byteOf r.lot.val, byteOf r.format, byteOf r.place.code] ++
    beBytes 2 r.place.position ++ beBytes 4 r.hangStep.toNat ++
    beBytes 4 r.place.boardStep.toNat ++ beBytes 3 r.dose ++
    [byteOf r.offSchedule, byteOf r.grade.level, r.marks.byte, byteOf r.place.dispositionCode] ++
    beBytes 4 r.place.exitStep.toNat

/-- LOT (R20), 11 bytes; a FREE entry reads with its fields cleared. -/
def State.lotRecord (s : State) (i : Fin 32) : List Byte :=
  let l := s.registry.lots[i]
  [byteOf i.val, byteOf (lotStateCode l)] ++ beBytes 3 (l.elim 0 (·.number)) ++
  [byteOf (l.elim 0 (·.format))] ++ beBytes 2 (l.elim 0 (·.rodCount)) ++
  [flagByte (l.elim false (·.held)), indexByte (l.bind (·.forward)),
    byteOf (l.elim 0 (·.referrers))]

/-- CAPTURE (R173), 19 bytes. -/
def State.captureRecordBytes (s : State) (z : Zone) : List Byte :=
  let c := s.router.captures[z]
  let r := c.record
  [byteOf z.val, flagByte r.isSome, bitsByte [c.minorSeen, c.majorSeen],
    byteOf (r.elim 0 (·.reportClass.code)), byteOf (r.elim 0 (·.governing))] ++
  beBytes 2 (r.elim 0 (·.temperature)) ++ [byteOf (r.elim 0 (·.humidity))] ++
  beBytes 2 (r.elim 0 (·.temperatureSetpoint)) ++ [byteOf (r.elim 0 (·.humiditySetpoint))] ++
  beBytes 4 (r.elim 0 (·.tick.toNat)) ++ beBytes 4 (r.elim 0 (·.stepNumber.toNat))

/-- CLAIMS by claim kind 0 to 2 (R162), 3 bytes. -/
def State.claimsRecord (s : State) (index : Nat) : List Byte :=
  match index with
  | 0 => [byteOf 0, indexByte s.authority.claims.changeover, 0]
  | 1 => [byteOf 1, indexByte s.authority.claims.purge, flagByte s.authority.drain]
  | _ => [byteOf 2, indexByte s.authority.claims.reconfigure, flagByte s.authority.lock]

/-! ## Record spaces (R181) -/

/-- The lowest read tier of a space's readers: a link may read it when its own tier number is at or
below this one (R181). -/
def Space.readTier : Space → Nat
  | .ident => 3
  | .motion => 2
  | .track => 2
  | .zone => 2
  | .format => 2
  | .staging => 1
  | .exit => 1
  | .rod => 1
  | .lot => 1
  | .capture => 0
  | .claims => 0

/-- The lowest index of a space's index bound (R181). -/
def Space.first : Space → Nat
  | .format => 1
  | .rod => 1
  | .ident => 0
  | .motion => 0
  | .track => 0
  | .zone => 0
  | .staging => 0
  | .exit => 0
  | .lot => 0
  | .capture => 0
  | .claims => 0

/-- The highest index of a space's index bound (R181). -/
def Space.last : Space → Nat
  | .ident => 0
  | .motion => 0
  | .track => 1023
  | .zone => 7
  | .format => 16
  | .staging => 4
  | .exit => 7
  | .rod => 65535
  | .lot => 31
  | .capture => 7
  | .claims => 2

/-- Whether an index lies within a space's index bound (R181). -/
def Space.bounds (space : Space) (index : Nat) : Bool := inRange space.first space.last index

/-- The index after an index, one past the last at the end of the bound; one past the end of the
ROD space is held as 0 (R182). -/
def Space.next (space : Space) (index : Nat) : Nat :=
  match space with
  | .rod => if index = 65535 then 0 else index + 1
  | .ident => index + 1
  | .motion => index + 1
  | .track => index + 1
  | .zone => index + 1
  | .format => index + 1
  | .staging => index + 1
  | .exit => index + 1
  | .lot => index + 1
  | .capture => index + 1
  | .claims => index + 1

/-- Whether a space holds a record for an index as the part then stands; an index without one lies
beyond the end (R181, R182). -/
def State.holdsRecord (s : State) (space : Space) (index : Nat) : Bool :=
  space.bounds index &&
  match space with
  | .track => decide (index < s.track.length)
  | .staging => decide (index ≤ s.admission.staging.length)
  | .exit => decide (index < s.exitQueue.length)
  | .ident => true
  | .motion => true
  | .zone => true
  | .format => true
  | .rod => true
  | .lot => true
  | .capture => true
  | .claims => true

/-- The record of a space at an index, built by the owning block from its state at the moment
(R182, R183). -/
def State.recordBytes (s : State) (space : Space) (index : Nat) : List Byte :=
  match space with
  | .ident => identRecord
  | .motion => s.motionRecord
  | .track => s.trackRecord index
  | .zone => s.zoneRecord (Fin.ofNat 8 index)
  | .format => s.formatRecord index
  | .staging =>
    if index = 0 then s.admissionRecord
    else (s.admission.staging[index - 1]?).elim [] s.stagedRecord
  | .exit => (s.exitQueue[index]?).elim [] s.exitRecord
  | .rod => s.rodRecord index
  | .lot => s.lotRecord (Fin.ofNat 32 index)
  | .capture => s.captureRecordBytes (Fin.ofNat 8 index)
  | .claims => s.claimsRecord index

/-! ## DATA payloads (R180) -/

/-- LINK_STATUS: class, tier, quiet flag, last error, cursor space (FFh cleared), cursor index
(R179), 7 bytes. -/
def LinkChannel.statusPayload (c : LinkChannel) : List Byte :=
  [byteOf c.class_.code, byteOf c.class_.tier, flagByte c.quiet, byteOf c.lastError.code,
    c.cursor.elim 0xFF fun k => byteOf k.space.code] ++ beBytes 2 (c.cursor.elim 0 (·.index))

/-- SETPOINT: zone, governing format, its schedule for the zone (R103), 9 bytes. -/
def setpointPayload (z : Zone) (format : Nat) (schedule : ZoneSchedule) : List Byte :=
  [byteOf z.val, byteOf format] ++ schedule.bytes

/-- READ_NOTES: count, class numbers padded to 12, horn request, HORN level, routes (R167), 27
bytes. -/
def Router.notesPayload (r : Router) (link : Link) : List Byte :=
  let numbers := classNumbers r.notes[link]
  [byteOf numbers.length] ++ numbers.map byteOf ++
  List.replicate (12 - numbers.length) 0 ++ [flagByte r.horn, flagByte r.hornLine] ++
  (List.finRange 12).map fun i => byteOf r.routes[i].code

/-! ## Frames (R176) -/

/-- The bytes of a frame between its opening mark and its check. -/
def Frame.content : Frame → List Byte
  | .response status attention payload => byteOf status.code :: flagByte attention :: payload
  | .record space index body => byteOf space.code :: (beBytes 2 index ++ body)
  | .trailer sent => [0xFF, byteOf sent]

/-- The bytes of a frame on the line: opening mark, content, check (R176). -/
def Frame.bytes (f : Frame) : List Byte := frameOf f.content

end Sys2Proof.Machine
end

