-- ==== Sys2Proof/Machine/LinkOps.lean ====
section
/-! DEFINITION. The shared operations of the link unit: latching a link error, taking a frame and
answering it, the turns of a stream, the reset of a link, and the binding of classes. -/

namespace Sys2Proof.Machine

/-- The part with one link channel changed. -/
def State.changeLink (s : State) (link : Link) (change : LinkChannel → LinkChannel) : State :=
  { s with links := s.links.set link (change s.links[link]) }

/-! ## Link errors -/

/-- A link error is latched, in place of the value held, and raises LINK_FAULT where the link is not
UNBOUND (R179). -/
def State.latchError (s : State) (link : Link) (e : LinkError) : State :=
  let latched := s.changeLink link fun c => { c with lastError := .link e }
  if s.links[link].class_ = .unbound then latched else latched.route .linkFault

/-- An opening mark received while the link transmits is discarded; the first one of a transmission
latches CONTENTION (R178). -/
def State.discardMark (s : State) (link : Link) : State :=
  if s.links[link].contended then s
  else (s.changeLink link fun c => { c with contended := true }).latchError link .contention

/-! ## Answers -/

/-- What an owning block answers to a request. -/
inductive Answer where
  | accepted
  | data (payload : List Byte)
  | empty
  | noSchedule
  | refused (reason : Reason)
  deriving DecidableEq, Repr

/-- The status of an answer (R176). -/
def Answer.status : Answer → Status
  | .accepted => .accepted
  | .data _ => .data
  | .empty => .empty
  | .noSchedule => .noSchedule
  | .refused r => .refused r

/-- The payload of an answer; only DATA carries one (R176, R180). -/
def Answer.payload : Answer → List Byte
  | .data p => p
  | .accepted => []
  | .empty => []
  | .noSchedule => []
  | .refused _ => []

/-- What the owning block makes of a request: the part after it, its answer, the stream that follows
the answer, and the events that reach the router after the answer (R134, R175, R182). -/
structure Reply where
  state : State
  answer : Answer
  stream : Option StreamJob := none
  after : List EventClass := []
  deriving DecidableEq, Repr

/-- A refused request changes nothing in the owning block. -/
def refuse (s : State) (r : Reason) : Reply := { state := s, answer := .refused r }

/-- A request answered ACCEPTED. -/
def accept (s : State) : Reply := { state := s, answer := .accepted }

/-- The response frame of an answer, with the attention of the part as the response is sent
(R168, R176). -/
def State.responseFrame (s : State) (link : Link) (a : Answer) : Frame :=
  .response a.status (s.attention link) a.payload

/-- The transmitter enters RESPONDING with the response frame (R178). DESIGN CHOICE (log entry 25):
the request is taken and its response, attention byte included, is made in one step, so no other
event comes between the two (R168). -/
def State.respond (s : State) (link : Link) (a : Answer) (stream : Option StreamJob) : State :=
  s.changeLink link fun c =>
    { c with transmitter := .responding stream, contended := false,
             sent := [s.responseFrame link a] }

/-! ## Taking a frame -/

/-- What becomes of a frame that arrives on a link: lost without a latch while the line stays
spacing (R185), lost with CONTENTION while the link transmits (R178), otherwise taken. -/
inductive Arrival where
  | lost
  | contended
  | taken
  deriving DecidableEq, Repr

def LinkChannel.arrival (c : LinkChannel) : Arrival :=
  if c.spacing then .lost
  else
    match c.transmitter with
    | .idle => .taken
    | .responding _ => .contended
    | .streaming _ => .contended

/-- The end of a frame: the receiver returns to HUNT (R177). -/
def State.endFrame (s : State) (link : Link) : State :=
  s.changeLink link fun c => { c with receiver := .hunt }

/-- A frame under way ends with an error: it is discarded and gets no response, and the error is
latched (R177, R179). -/
def State.discardFrame (s : State) (link : Link) (e : LinkError) : State :=
  (s.endFrame link).latchError link e

/-- Whether the inter-byte limit of a frame under way has run out (R177). -/
def LinkChannel.limitDue (c : LinkChannel) : Bool :=
  match c.receiver with
  | .hunt => false
  | .body gap _ => decide (Config.gapLimit < gap)

/-- The inter-byte limit runs out and the frame is discarded TRUNCATED (R177), if it is due (log
entry 3). -/
def State.limitExpiry (s : State) (link : Link) : State :=
  if s.links[link].limitDue then s.discardFrame link .truncated else s

/-- A request arrives whole on a link (R175, R177, R178): if it is taken, a class that may not issue
it is refused CLASS, and otherwise the owning block's reply is sent and the events that reach the
router after it are routed. An inter-byte limit that has run out is taken before it (R187). -/
def State.serve (s : State) (link : Link) (may : StationClass → Bool) (body : State → Reply) :
    State :=
  match s.links[link].arrival with
  | .lost => s
  | .contended => s.discardMark link
  | .taken =>
    let s' := (s.limitExpiry link).endFrame link
    if may s.links[link].class_ then
      ((body s').state.respond link (body s').answer (body s').stream).routeAll (body s').after
    else s'.respond link (.refused .class_) none

/-- The classes of the request table (R180). -/
def anyClass : StationClass → Bool := fun _ => true

def isSupervisor : StationClass → Bool := fun c => decide (c = .supervisor)

def isSpreader : StationClass → Bool := fun c => decide (c = .spreader)

def isStripper : StationClass → Bool := fun c => decide (c = .stripper)

def isZone : StationClass → Bool
  | .zone _ => true
  | .unbound => false
  | .supervisor => false
  | .spreader => false
  | .stripper => false

def isSupervisorOrSpreader : StationClass → Bool := fun c => isSupervisor c || isSpreader c

/-! ## Streams (R182) -/

/-- The cursor after a record is sent. -/
def Cursor.advanced (c : Cursor) (advance : Bool) : Cursor :=
  if advance then { c with index := c.space.next c.index } else c

/-- The transmitter after a record of a stream: the stream ends when the count has been sent. -/
def StreamJob.afterRecord (j : StreamJob) : Transmitter :=
  if j.left ≤ 1 then .idle
  else .streaming { j with left := j.left - 1, sent := j.sent + 1 }

/-- The frames of one turn that sends a record: the record, and after the last of the count the
trailer. -/
def StreamJob.framesWith (j : StreamJob) (record : Frame) : List Frame :=
  if j.left ≤ 1 then [record, .trailer (j.sent + 1)] else [record]

/-- The end of a stream at the end of the space: the trailer with the number of records sent, and
the transmitter returns to IDLE. -/
def State.endStream (s : State) (link : Link) (j : StreamJob) : State :=
  s.changeLink link fun c => { c with transmitter := .idle, sent := [.trailer j.sent] }

/-- One turn of a stream: at an index beyond the end of the space the stream ends; otherwise the
record is built from the part as it stands and sent, and with advance the cursor moves on. -/
def State.streamTurn (s : State) (link : Link) (j : StreamJob) : State :=
  match s.links[link].cursor with
  | none => s.endStream link j
  | some k =>
    if s.holdsRecord k.space k.index then
      s.changeLink link fun c =>
        { c with
          transmitter := j.afterRecord
          cursor := some (k.advanced j.advance)
          sent := j.framesWith (.record k.space k.index (s.recordBytes k.space k.index)) }
    else s.endStream link j

/-- The transmitter enters STREAMING; a stream whose first index already lies beyond the end sends
its trailer at once (R182; log entry 9). -/
def State.beginStream (s : State) (link : Link) (j : StreamJob) : State :=
  match s.links[link].cursor with
  | none => s.endStream link j
  | some k =>
    if s.holdsRecord k.space k.index then
      s.changeLink link fun c => { c with transmitter := .streaming j }
    else s.endStream link j

/-! ## Link reset and binding -/

/-- A link channel after a break: class kept, everything else as R185 gives. -/
def LinkChannel.afterBreak (c : LinkChannel) : LinkChannel :=
  { c with receiver := .hunt, transmitter := .idle, contended := false, spacing := true,
           cursor := none, quiet := false, lastError := .clear, sent := [] }

/-- The pending-note set of a link is emptied (R167). -/
def State.emptyNotes (s : State) (link : Link) : State :=
  { s with router := { s.router with notes := s.router.notes.set link noEvents } }

/-- The reset of a link by a break (R185). -/
def State.resetLink (s : State) (link : Link) : State :=
  ((s.changeLink link LinkChannel.afterBreak).emptyNotes link).loseClaimsOf link

/-- The class that a strap code names (R174). -/
def classOfStrap (code : BitVec 4) : StationClass :=
  if code.toNat = 1 then .supervisor
  else if code.toNat = 2 then .spreader
  else if code.toNat = 3 then .stripper
  else if h : 8 ≤ code.toNat then .zone ⟨code.toNat - 8, by have := code.isLt; omega⟩
  else .unbound

/-- How many links may keep a class; UNBOUND is no claim on a place (R174). -/
def StationClass.places : StationClass → Nat
  | .supervisor => 2
  | .spreader => 1
  | .stripper => 1
  | .zone _ => 1
  | .unbound => 12

/-- How many lower-numbered links are strapped the same. -/
def lowerSame (straps : Vector (BitVec 4) 12) (link : Link) : Nat :=
  ((List.finRange 12).filter fun o =>
    decide (o < link) && decide (classOfStrap straps[o] = classOfStrap straps[link])).length

/-- Whether a link keeps the class of its straps: conflicts go to the lower-numbered links (R174). -/
def keepsClass (straps : Vector (BitVec 4) 12) (link : Link) : Bool :=
  decide (lowerSame straps link < (classOfStrap straps[link]).places)

/-- The class that a link is bound to (R174). -/
def boundClass (straps : Vector (BitVec 4) 12) (link : Link) : StationClass :=
  if keepsClass straps link then classOfStrap straps[link] else .unbound

/-- A link channel at the release of RESET (R174, R186). -/
def bindLink (straps : Vector (BitVec 4) 12) (link : Link) : LinkChannel :=
  { LinkChannel.reset with
    class_ := boundClass straps link
    lastError := if keepsClass straps link then .clear else .bindConflict }

/-- The link that holds ZONE n for a zone, if one does (R174). -/
def bindZone (straps : Vector (BitVec 4) 12) (z : Zone) : Option Link :=
  (List.finRange 12).find? fun l => decide (boundClass straps l = .zone z)

/-- Device reset: every block at its reset values and the links bound from the straps (R47, R90,
R92, R128, R143, R173, R174, R186). The levels of the input lines are not the part's to change, and
the commands that wait are the outside's (log entries 2 and 15). -/
def State.deviceReset (s : State) (straps : Vector (BitVec 4) 12) : State :=
  { State.reset with
    track := TrackControl.reset s.track.holdLine s.track.advanceDoneLine
    zones := { State.reset.zones with
      channels := Vector.ofFn fun z : Zone => { ZoneChannel.reset with boundLink := bindZone straps z } }
    links := Vector.ofFn fun l : Link => bindLink straps l
    pending := s.pending }

end Sys2Proof.Machine
end

