-- ==== Sys2Proof/Machine/ZoneOps.lean ====
section
/-! DEFINITION. The shared operations of the zone monitor, the deviation captures and the exposure
unit: the governing format and its recomputation, the classification and capture of a report, the
schedule-changed flags, and what an exposure tick credits. -/

namespace Sys2Proof.Machine

/-! ## The governing format -/

/-- The rod at the highest occupied position of a run of slots; gaps are passed over (R97). -/
def highestRod (slots : List (Option Nat)) : Option Nat := slots.reverse.findSome? id

/-- The rod that decides for a window: at the highest occupied position inside it, otherwise at the
highest occupied position below its base (R97). -/
def decidingRod (slots : List (Option Nat)) (base limit : Nat) : Option Nat :=
  match highestRod ((slots.take (limit + 1)).drop base) with
  | some id => some id
  | none => highestRod (slots.take base)

/-- The format of a rod. -/
def State.rodFormat (s : State) (id : Nat) : Option Nat := (s.rod id).map (·.format)

/-- The governing format of an enabled window: the format of the deciding rod, otherwise the running
format, otherwise none (R97). -/
def State.governingFormat (s : State) (base limit : Nat) : Option Nat :=
  match (decidingRod s.track.slots base limit).bind s.rodFormat with
  | some f => some f
  | none => s.admission.running

/-- What a channel becomes when its governing format is recomputed: a different format switches the
zone to AWAITING, discards its report and sets its flag; the staleness count stands (R99). -/
def ZoneChannel.switch (c : ZoneChannel) (governing : Option Nat) : ZoneChannel :=
  if c.governing = governing then c
  else { c with governing := governing, state := .awaiting, report := none, reportClass := .ok,
                changed := true }

/-- The part with its zone channels changed. -/
def State.mapChannels (s : State) (change : Zone → ZoneChannel → ZoneChannel) : State :=
  { s with zones := { s.zones with
      channels := Vector.ofFn fun z : Zone => change z s.zones.channels[z] } }

/-- The part with one zone channel changed. -/
def State.changeChannel (s : State) (z : Zone) (change : ZoneChannel → ZoneChannel) : State :=
  { s with zones := { s.zones with channels := s.zones.channels.set z (change s.zones.channels[z]) } }

/-- Recomputation of the governing format of every enabled zone, from one track (R98). -/
def State.recomputeZones (s : State) : State :=
  s.mapChannels fun _ c =>
    if c.enabled then c.switch (s.governingFormat c.base c.limit) else c

/-- The schedule-changed flag of every enabled zone that a format governs is set (R101, R111). -/
def State.flagGoverned (s : State) (format : Nat) : State :=
  s.mapChannels fun _ c =>
    if c.enabled ∧ c.governing = some format then { c with changed := true } else c

/-! ## Windows -/

/-- Whether two windows share a position. -/
def windowsMeet (base limit base' limit' : Nat) : Bool :=
  decide (base ≤ limit') && decide (base' ≤ limit)

/-- Whether a window shares a position with the enabled window of another zone (R94). -/
def State.windowTaken (s : State) (z : Zone) (base limit : Nat) : Bool :=
  (List.finRange 8).any fun o =>
    decide (o ≠ z) && s.zones.channels[o].enabled &&
      windowsMeet base limit s.zones.channels[o].base s.zones.channels[o].limit

/-- A channel with its new window and the effects of R95 that do not come from the recomputation:
on enabling, `governing` is the format computed for the new window. -/
def ZoneChannel.setWindow (c : ZoneChannel) (base limit : Nat) (governing : Option Nat) :
    ZoneChannel :=
  if base ≤ limit then
    if c.enabled then { c with base := base, limit := limit }
    else { c with base := base, limit := limit, state := .awaiting, governing := governing,
                  staleness := 0, report := none, reportClass := .ok, changed := true }
  else if c.enabled then
    { c with base := base, limit := limit, state := .off, governing := none, report := none,
             reportClass := .ok, staleness := 0, changed := false }
  else { c with base := base, limit := limit }

/-! ## Reports -/

/-- The difference of two numbers without sign. -/
def deviation (a b : Nat) : Nat := if a ≤ b then b - a else a - b

/-- The class of a report against a schedule: a deviation exceeds a band when it is greater than
the band (R106). -/
def classify (z : ZoneSchedule) (r : Report) : ReportClass :=
  if z.temperatureLimit < deviation r.temperature z.temperature ∨
      z.humidityLimit < deviation r.humidity z.humidity then .major
  else if z.temperatureTolerance < deviation r.temperature z.temperature ∨
      z.humidityTolerance < deviation r.humidity z.humidity then .minor
  else .ok

/-- The schedule that governs a zone, if a format governs it. -/
def State.schedule (s : State) (z : Zone) : Option ZoneSchedule :=
  s.zones.channels[z].governing.map fun f => (s.formatFields f).schedules[z]

/-- The class of a report of a zone; OK where no format governs (R106). -/
def State.classOfReport (s : State) (z : Zone) (r : Report) : ReportClass :=
  match s.schedule z with
  | none => .ok
  | some schedule => classify schedule r

/-- What a capture becomes when a report is offered to it; `record` is the record that the report
would fill (R171). -/
def Capture.offer (c : Capture) (record : CaptureRecord) : Capture :=
  match record.reportClass with
  | .ok => c
  | .minor =>
    match c.record with
    | none => { c with record := some record, minorSeen := true }
    | some _ => { c with minorSeen := true }
  | .major =>
    match c.record with
    | none => { c with record := some record, majorSeen := true }
    | some held =>
      if held.reportClass = .major then { c with majorSeen := true }
      else { c with record := some record, majorSeen := true }

/-- The record that a report of a zone would fill, from the part at its acceptance; `none` where no
format governs, and then the report is OK and is not offered (R106, R171). -/
def State.captureRecord (s : State) (z : Zone) (r : Report) : Option CaptureRecord :=
  s.zones.channels[z].governing.map fun f =>
    { reportClass := s.classOfReport z r, governing := f, temperature := r.temperature,
      humidity := r.humidity,
      temperatureSetpoint := (s.formatFields f).schedules[z].temperature,
      humiditySetpoint := (s.formatFields f).schedules[z].humidity,
      tick := s.exposure.tick, stepNumber := s.track.stepNumber }

/-- The part with the capture of one zone changed. -/
def State.changeCapture (s : State) (z : Zone) (change : Capture → Capture) : State :=
  { s with router := { s.router with
      captures := s.router.captures.set z (change s.router.captures[z]) } }

/-- The offer of a report to its zone's capture, before its event is routed (R171). -/
def State.offerCapture (s : State) (z : Zone) (r : Report) : State :=
  match s.captureRecord z r with
  | none => s
  | some record => s.changeCapture z fun c => c.offer record

/-- The event class that a report raises (R107). -/
def ReportClass.events : ReportClass → List EventClass
  | .ok => []
  | .minor => [.devMinor]
  | .major => [.devMajor]

/-- Acceptance of a report: it becomes the zone's last report with its class, the staleness count
returns to 0 and the zone is REPORTING (R105). -/
def ZoneChannel.accept (c : ZoneChannel) (r : Report) (k : ReportClass) : ZoneChannel :=
  { c with report := some r, reportClass := k, staleness := 0, state := .reporting }

/-! ## The exposure tick -/

/-- The mark that a report class adds to the rods of its zone (R120). -/
def ReportClass.mark : ReportClass → Option Mark
  | .ok => none
  | .minor => some .minorExposure
  | .major => some .majorExposure

/-- Dose credit: the dose rises by the rate and saturates (R119). -/
def RodRecord.creditDose (rate : Nat) (r : RodRecord) : RodRecord :=
  { r with dose := min Config.doseMax (r.dose + rate) }

/-- The mark of the class, if it has one (R120). -/
def RodRecord.markClass (k : ReportClass) (r : RodRecord) : RodRecord :=
  match k.mark with
  | none => r
  | some m => r.addMark m

/-- Off-schedule counting: in a zone that another format governs the count rises, saturating, and
past the tolerance of the rod's own format the rod gains OFF_SCHEDULE (R121). -/
def RodRecord.countOffSchedule (governing : Option Nat) (tolerance : Nat) (r : RodRecord) :
    RodRecord :=
  match governing with
  | none => r
  | some f =>
    if f = r.format then r
    else
      let counted := { r with offSchedule := min Config.byteMax (r.offSchedule + 1) }
      if tolerance < counted.offSchedule then counted.addMark .offSchedule else counted

/-- What a tick does to a rod in the window of a zone, by the state of the zone (R119 to R123). -/
def RodRecord.expose (c : ZoneChannel) (tolerance : Nat) (r : RodRecord) : RodRecord :=
  match c.state with
  | .off => r
  | .awaiting => r
  | .stale => r.addMark .unmonitored
  | .reporting =>
    ((r.creditDose (c.report.elim 0 (·.doseRate))).markClass c.reportClass).countOffSchedule
      c.governing tolerance

/-- The enabled zone whose window covers a position; at most one does (R93). -/
def State.zoneAt (s : State) (p : Nat) : Option Zone :=
  (List.finRange 8).find? fun z => s.zones.channels[z].covers p

/-- What a tick does to a rod record: only a rod ON_TRACK inside the window of an enabled zone is
reached (R118). -/
def State.exposeRod (s : State) (r : RodRecord) : RodRecord :=
  match r.place with
  | .onTrack p _ =>
    match s.zoneAt p with
    | none => r
    | some z => r.expose s.zones.channels[z] (s.formatFields r.format).tolerance
  | .staged => r
  | .boarding => r
  | .exited _ _ _ => r

/-- The staleness count of a channel after a tick (R108). -/
def ZoneChannel.countStale (c : ZoneChannel) : ZoneChannel :=
  match c.state with
  | .off => c
  | _ => { c with staleness := min Config.byteMax (c.staleness + 1) }

/-- Whether a channel becomes STALE at a tick (R109). -/
def ZoneChannel.growsStale (limit : Nat) (c : ZoneChannel) : Bool :=
  match c.state with
  | .off => false
  | .stale => false
  | .awaiting => decide (limit ≤ c.countStale.staleness)
  | .reporting => decide (limit ≤ c.countStale.staleness)

/-- The staleness advance of a channel (R108, R109). -/
def ZoneChannel.advanceStale (limit : Nat) (c : ZoneChannel) : ZoneChannel :=
  if c.growsStale limit then { c.countStale with state := .stale } else c.countStale

/-- The ZONE_STALE events of a tick, one for each zone that becomes STALE (R109). -/
def State.staleEvents (s : State) : List EventClass :=
  ((List.finRange 8).filter fun z => s.zones.channels[z].growsStale s.zones.stalenessLimit).map
    fun _ => .zoneStale

/-- The exposure tick: the number rises, the rods in the windows are credited and marked by the
zones as they stand, then staleness advances; ZONE_STALE is routed after the tick (R117). -/
def State.tickExposure (s : State) : State :=
  let counted := { s with exposure := { s.exposure with tick := s.exposure.tick + 1 } }
  let credited := counted.mapRods fun rods => rods.map s.exposeRod
  let advanced := credited.mapChannels fun _ c => c.advanceStale s.zones.stalenessLimit
  advanced.routeAll s.staleEvents

end Sys2Proof.Machine
end

