-- ==== Sys2Proof/Machine/StepOps.lean ====
section
/-! DEFINITION. The shared operations of a step: its beginning, the boarding choice, the shift with
the taking of the exit rod, settling, suspension and late completion. An operation that raises
events answers them beside the new state, so that they reach the router after the whole change
(R55, R163). -/

namespace Sys2Proof.Machine

/-- The part after an operation, with the events raised within it, in order. -/
abbrev Change := State × List EventClass

/-- A second operation after a first, with the events of both. -/
def andThen (c : Change) (next : State → Change) : Change :=
  ((next c.1).1, c.2 ++ (next c.1).2)

/-- The part once the events of a change have reached the router. -/
def settleEvents (c : Change) : State := c.1.routeAll c.2

/-! ## The boarding choice -/

/-- What a boarding choice gives: the head rod boards, or a gap, intended or not (R73, R74). -/
inductive Choice where
  | head (id : Nat)
  | gap (unintended : Bool)
  deriving DecidableEq, Repr

/-- The boarding choice for a head rod of a format (R73): in OPEN a rod of the running format
boards; in CHANGEOVER also a rod of the pending format once the trailing gaps have reached the
required gap; in CLOSED nothing. The gap before a pending-format head that is still short of its
gap is intended, and so is every gap in CLOSED (R74). -/
def Admission.choiceFor (a : Admission) (id : Nat) (format : Option Nat) : Choice :=
  match a.mode with
  | .open_ => if format.isSome ∧ a.running = format then .head id else .gap true
  | .changeover pending requiredGap =>
    if format.isSome ∧ a.running = format then .head id
    else if format = some pending then
      if requiredGap ≤ a.trailing then .head id else .gap false
    else .gap true
  | .closed => .gap false

/-- The boarding choice (R73, R74): an empty queue gives a gap, unintended unless the mode is
CLOSED. -/
def State.boardingChoice (s : State) : Choice :=
  match s.admission.staging with
  | [] => .gap (decide (s.admission.mode ≠ .closed))
  | id :: _ => s.admission.choiceFor id (s.rodFormat id)

/-- The choice bound: the head moves to the boarding slot and its place becomes BOARDING, or a gap
is recorded there, with ADMISSION_GAP where it is unintended (R31, R73, R74). -/
def State.bindChoice (s : State) : Change :=
  match s.boardingChoice with
  | .head id =>
    ({ s with
        admission := { s.admission with staging := s.admission.staging.tail, boarding := .rod id }
        registry := { s.registry with
          rods := updateRod id (fun r => { r with place := .boarding }) s.registry.rods } }, [])
  | .gap unintended =>
    ({ s with admission := { s.admission with boarding := .gap } },
      if unintended then [.admissionGap] else [])

/-! ## The beginning of a step -/

/-- The part with its step sub-state written. -/
def State.setStep (s : State) (step : StepState) : State :=
  s.mapTrack fun t => { t with step := step }

/-- Entry to ADVANCING: the choice is bound, ADVANCE is asserted (it follows the sub-state) and the
advance limit timer starts (R31). -/
def State.enterAdvancing (s : State) : Change :=
  (s.bindChoice.1.setStep (.advancing s.track.advanceLimit), s.bindChoice.2)

/-- Whether the rod at L - 1 has nowhere to go (R30). -/
def State.exitBlocked (s : State) : Bool :=
  s.track.lastSlot.isSome && decide (Config.exitCapacity ≤ s.exitQueue.length)

/-- A step begins: it waits in EXIT_WAIT when the exit is blocked, and otherwise enters ADVANCING
(R30). -/
def State.beginStep (s : State) : Change :=
  if s.exitBlocked then (s.setStep (.exitWait s.track.exitWaitLimit), [])
  else s.enterAdvancing

/-! ## Taking the exit rod -/

/-- The disposition of a rod from its grade and dose and the dose window of its format (R132). -/
def dispositionOf (g : Grade) (dose doseMinimum doseMaximum : Nat) : Disposition :=
  match g with
  | .suspect => .quarantine
  | .barred => .quarantine
  | .noted =>
    if dose < doseMinimum then .regrindUnder
    else if doseMaximum < dose then .regrindOver
    else .cutNoted
  | .clean =>
    if dose < doseMinimum then .regrindUnder
    else if doseMaximum < dose then .regrindOver
    else .cut

/-- The record of the exit rod after its taking: the result of the resolution is applied, then the
disposition is computed, then the place becomes EXITED with the exit step (R131). -/
def RodRecord.exitWith (c : ChainResult) (window : FormatEntry) (exitStep : Word32)
    (r : RodRecord) : RodRecord :=
  let resolved := r.applyResolution c
  { resolved with
    place := .exited r.place.boardStep exitStep
      (dispositionOf resolved.grade resolved.dose window.doseMinimum window.doseMaximum) }

/-- The disposition of an EXITED rod. -/
def RodRecord.disposition (r : RodRecord) : Option Disposition :=
  match r.place with
  | .exited _ _ d => some d
  | .staged => none
  | .boarding => none
  | .onTrack _ _ => none

/-- The taking of the rod at L - 1 (R131): resolution, disposition, EXITED, exit record at the tail
of the queue; CHAIN_FAULT and QUARANTINE are raised as the rule gives. -/
def State.takeExit (s : State) : Change :=
  match s.track.lastSlot.bind s.rod with
  | none => (s, [])
  | some r =>
    let result := resolveChain s.registry.lots r.lot
    let taken := r.exitWith result (s.formatFields r.format) (s.track.stepNumber + 1)
    ({ s with
        registry := { s.registry with rods := updateRod r.id (fun _ => taken) s.registry.rods }
        exitQueue := s.exitQueue ++ [r.id] },
      result.events ++ if taken.disposition = some .quarantine then [.quarantine] else [])

/-! ## The shift -/

/-- A rod that stays on the track moves one place towards the exit (R33, effect 3). -/
def RodRecord.moveUp (r : RodRecord) : RodRecord :=
  match r.place with
  | .onTrack p b => { r with place := .onTrack (p + 1) b }
  | .staged => r
  | .boarding => r
  | .exited _ _ _ => r

/-- What enters position 0: the rod of the boarding slot or a gap. -/
def Boarding.slot : Boarding → Option Nat
  | .rod id => some id
  | .gap => none
  | .empty => none

/-- The slots after a shift: the content of L - 1 leaves, every other moves up one place, and the
boarding content enters position 0 (R33, effects 2 to 4). -/
def shiftSlots (entering : Option Nat) (slots : List (Option Nat)) : List (Option Nat) :=
  (entering :: slots).take slots.length

/-- Effects 3 and 4 on track, rods and boarding slot: the boarding rod becomes ON_TRACK at position
0 with the step number this shift produces (R33). -/
def State.moveSlots (s : State) : State :=
  let moved := s.registry.rods.map RodRecord.moveUp
  { s with
    track := { s.track with slots := shiftSlots s.admission.boarding.slot s.track.slots }
    registry := { s.registry with
      rods :=
        match s.admission.boarding with
        | .rod id =>
          updateRod id (fun r => { r with place := .onTrack 0 (s.track.stepNumber + 1) }) moved
        | .gap => moved
        | .empty => moved }
    admission := { s.admission with boarding := .empty } }

/-- Effect 4 on the admission unit, told what boarded: a rod returns the trailing gaps to 0, a gap
raises them, saturating (R75); a rod of the pending format completes a changeover, which makes it
the running format, opens the mode and releases the claim (R81). -/
def State.noteBoarded (s : State) (boarded : Boarding) : State :=
  match boarded with
  | .gap =>
    { s with admission := { s.admission with trailing := min Config.byteMax (s.admission.trailing + 1) } }
  | .empty =>
    { s with admission := { s.admission with trailing := min Config.byteMax (s.admission.trailing + 1) } }
  | .rod id =>
    let counted := { s with admission := { s.admission with trailing := 0 } }
    match s.admission.mode with
    | .changeover pending _ =>
      if s.rodFormat id = some pending then
        { counted with
          admission := { counted.admission with running := some pending, mode := .open_ }
          authority := { counted.authority with
            claims := { counted.authority.claims with changeover := none } } }
      else counted
    | .open_ => counted
    | .closed => counted

/-- Effect 5: the step number rises by one (R24, R33). -/
def State.raiseStepNumber (s : State) : State :=
  s.mapTrack fun t => { t with stepNumber := t.stepNumber + 1 }

/-- Effects 2 to 7 of the shift, in order, each on the state that the ones before it have left: the
exit rod is taken, the slots move and the boarding content enters, the admission unit is told, the
step number rises, the governing formats are recomputed, and the drain is checked (R33). -/
def State.shift (s : State) : Change :=
  let taken := s.takeExit
  (((((taken.1.moveSlots).noteBoarded s.admission.boarding).raiseStepNumber).recomputeZones).checkDrain,
    taken.2)

/-! ## Settling and the end of a step -/

/-- The end of settling: with the owed flag set it clears and the owed step begins; otherwise the
step is IDLE (R35). -/
def State.endSettling (s : State) : Change :=
  if s.track.owed then (s.mapTrack fun t => { t with owed := false }).beginStep
  else (s.setStep .idle, [])

/-- SETTLING begins; with a settle interval of 0 it ends at the moment it begins (R35). -/
def State.beginSettling (s : State) : Change :=
  if s.track.settleInterval = 0 then s.endSettling
  else (s.setStep (.settling s.track.settleInterval), [])

/-- Effect 8 of the shift: SETTLING in RUNNING, HELD and IDLE from HOLDING, IDLE in STOPPED; the
motion state HELD does not meet a step in ADVANCING (R33). -/
def State.finishShift (s : State) : Change :=
  match s.track.motion with
  | .running => s.beginSettling
  | .holding => ((s.setStep .idle).mapTrack TrackControl.enterHeld, [])
  | .stopped => (s.setStep .idle, [])
  | .held => (s.setStep .idle, [])

/-- The shift of a step that ends normally, effects 1 to 8 (R33). -/
def State.normalShift (s : State) : Change := andThen s.shift State.finishShift

/-- Every rod on the track gains LATE_SHIFT (R126). -/
def State.markLate (s : State) : State :=
  s.mapRods fun rods => rods.map fun r =>
    match r.place with
    | .onTrack _ _ => r.addMark .lateShift
    | .staged => r
    | .boarding => r
    | .exited _ _ _ => r

/-- The completion of a suspended step, late or confirmed: the shift, the LATE_SHIFT marks, then
IDLE with no settling; the motion state stands as the drain check left it (R40, R41). -/
def State.completeSuspended (s : State) : Change :=
  (s.shift.1.markLate.setStep .idle, s.shift.2)

/-! ## The end of a step that goes wrong -/

/-- The advance limit runs out: SUSPENDED, MOTION added, HELD (R38, R54). -/
def TrackControl.suspend (t : TrackControl) : TrackControl :=
  { t with step := .suspended, causes := t.causes.insert .motion }.enterHeld

/-- The exit wait limit runs out: the step is withdrawn, EXIT added, HELD (R45, R54). -/
def TrackControl.withdrawStep (t : TrackControl) : TrackControl :=
  { t with step := .idle, causes := t.causes.insert .exit }.enterHeld

/-- A suspended step is given up: a bound rod returns to the head of the staging queue as STAGED, a
bound gap is dropped, and nothing else of track and admission changes (R42). -/
def State.abandonSuspended (s : State) : State :=
  match s.admission.boarding with
  | .rod id =>
    { s with
      admission := { s.admission with staging := id :: s.admission.staging, boarding := .empty }
      registry := { s.registry with
        rods := updateRod id (fun r => { r with place := .staged }) s.registry.rods }
      track := { s.track with step := .idle } }
  | .gap =>
    { s with
      admission := { s.admission with boarding := .empty }
      track := { s.track with step := .idle } }
  | .empty => s.setStep .idle

/-! ## Expiries that have fallen due -/

/-- Whether the cadence counter has risen to a compare value that is not 0, in a motion state in
which it counts (R26). -/
def TrackControl.cadenceDue (t : TrackControl) : Bool :=
  (decide (t.motion = .running) || decide (t.motion = .holding)) &&
    decide (t.cadenceCompare ≠ 0) && decide (t.cadenceCompare ≤ t.cadenceCount)

/-- Whether the settle timer has run out (R25). -/
def TrackControl.settleDue (t : TrackControl) : Bool := decide (t.step = .settling 0)

/-- Whether the advance limit timer has run out (R25). -/
def TrackControl.advanceLimitDue (t : TrackControl) : Bool := decide (t.step = .advancing 0)

/-- Whether the exit wait timer has run out (R25). -/
def TrackControl.exitWaitDue (t : TrackControl) : Bool := decide (t.step = .exitWait 0)

/-- Whether the exposure counter has risen to an interval that is not 0 (R114). -/
def Exposure.due (e : Exposure) : Bool :=
  decide (e.interval ≠ 0) && decide (e.interval ≤ e.counter)

/-- The effect of a cadence expiry by motion state and sub-state (R28). The pairs that the rule's
table leaves out do not occur. -/
def State.cadenceEffect (s : State) : Change :=
  match s.track.motion, s.track.step with
  | .running, .idle => s.beginStep
  | .running, .suspended => (s, [])
  | .running, _ =>
    (s.mapTrack fun t => { t with owed := true }, if s.track.owed then [.cadenceOverrun] else [])
  | _, _ => (s, [])

/-- A cadence expiry: the counter returns to 0 and the expiry has its effect (R26, R28). An expiry
that is not due does not occur (log entry 3). -/
def State.cadenceExpiry (s : State) : State :=
  if s.track.cadenceDue then
    settleEvents (s.mapTrack fun t => { t with cadenceCount := 0 }).cadenceEffect
  else s

/-- The settle timer runs out (R35), if it is due (log entry 3). -/
def State.settleExpiry (s : State) : State :=
  if s.track.settleDue then settleEvents s.endSettling else s

/-- The advance limit runs out and MOTION_FAULT is raised (R38), if it is due (log entry 3). -/
def State.advanceLimitExpiry (s : State) : State :=
  if s.track.advanceLimitDue then (s.mapTrack TrackControl.suspend).routeAll [.motionFault] else s

/-- The exit wait limit runs out and EXIT_BLOCKED is raised (R45), if it is due (log entry 3). -/
def State.exitWaitExpiry (s : State) : State :=
  if s.track.exitWaitDue then (s.mapTrack TrackControl.withdrawStep).routeAll [.exitBlocked] else s

/-- The exposure timer runs out: the counter returns to 0 and the tick is taken (R114, R117), if it
is due (log entry 3). -/
def State.exposureExpiry (s : State) : State :=
  if s.exposure.due then
    ({ s with exposure := { s.exposure with counter := 0 } }).tickExposure
  else s

/-! ## The base tick -/

/-- The timer of the sub-state counts one base tick down (R25). -/
def StepState.tick : StepState → StepState
  | .idle => .idle
  | .exitWait left => .exitWait (left - 1)
  | .advancing left => .advancing (left - 1)
  | .settling left => .settling (left - 1)
  | .suspended => .suspended

/-- The cadence counter counts in RUNNING and HOLDING, and stays at 65535 (R26). -/
def TrackControl.tick (t : TrackControl) : TrackControl :=
  match t.motion with
  | .running => { t with step := t.step.tick, cadenceCount := min Config.wordMax (t.cadenceCount + 1) }
  | .holding => { t with step := t.step.tick, cadenceCount := min Config.wordMax (t.cadenceCount + 1) }
  | .stopped => { t with step := t.step.tick }
  | .held => { t with step := t.step.tick }

/-- The exposure counter counts while the interval is not 0 (R114). -/
def Exposure.tickCounter (e : Exposure) : Exposure :=
  if e.interval = 0 then e else { e with counter := min Config.wordMax (e.counter + 1) }

/-- The inter-byte limit of a receiver in BODY counts (R177). -/
def Receiver.tick : Receiver → Receiver
  | .hunt => .hunt
  | .body gap bytes => .body (gap + 1) bytes

/-- One base tick of every count of the part (R25, R26, R114, R177). -/
def State.countTick (s : State) : State :=
  { s with
    track := s.track.tick
    exposure := s.exposure.tickCounter
    links := Vector.ofFn fun l : Link => { s.links[l] with receiver := s.links[l].receiver.tick } }

/-- The expiries that the last tick left due and no command has taken, in a fixed order (log entry
4): exposure, the timer of the sub-state, cadence, the inter-byte limits by rising link number. -/
def State.takeOverdue (s : State) : State :=
  (List.finRange 12).foldl State.limitExpiry
    ((((s.exposureExpiry).settleExpiry).advanceLimitExpiry).exitWaitExpiry).cadenceExpiry

end Sys2Proof.Machine
end

