-- ==== Sys2Proof/Machine/LineEvents.lean ====
section
/-! DEFINITION. The events of the discrete lines and of the timers: RESET, the HOLD line, ADVANCE
DONE, the expiries and the base tick. -/

namespace Sys2Proof.Machine

/-- A rising edge of the HOLD line adds the LINE cause outside STOPPED; a line that is already
asserted gives no edge (R52). -/
def TrackControl.holdLineRises (t : TrackControl) : TrackControl :=
  if t.holdLine then t else { t with holdLine := true }.addCause .line

/-- A falling edge of the HOLD line removes the LINE cause; the motion state stays as it is (R52). -/
def TrackControl.holdLineFalls (t : TrackControl) : TrackControl :=
  { t with holdLine := false, causes := { t.causes with line := false } }

/-- An arrival of ADVANCE DONE, by the sub-state: the shift, the late completion with LATE_ADVANCE,
or a stray arrival (R32, R33, R40). -/
def State.advanceArrives (s : State) : Change :=
  match s.track.step with
  | .advancing _ => s.normalShift
  | .suspended => (s.completeSuspended.1, s.completeSuspended.2 ++ [.lateAdvance])
  | .idle => (s, [.strayAdvance])
  | .exitWait _ => (s, [.strayAdvance])
  | .settling _ => (s, [.strayAdvance])

/-! ## Meanings -/

/-- DEVICE_RESET (R47, R174, R186). -/
def execDeviceReset (straps : Vector (BitVec 4) 12) (s : State) : Result :=
  .next (s.deviceReset straps)

/-- HOLD_LINE_RISE (R52). -/
def execHoldLineRise (s : State) : Result := .next (s.mapTrack TrackControl.holdLineRises)

/-- HOLD_LINE_FALL (R52). -/
def execHoldLineFall (s : State) : Result := .next (s.mapTrack TrackControl.holdLineFalls)

/-- ADVANCE_DONE: the passage of the line from negated to asserted is an arrival; a level that stays
asserted does not arrive again (R32). -/
def execAdvanceDone (s : State) : Result :=
  if s.track.advanceDoneLine then .next s
  else .next (settleEvents (s.mapTrack fun t => { t with advanceDoneLine := true }).advanceArrives)

/-- ADVANCE_DONE_FALL: the line is negated and its next rise is an arrival (R32). -/
def execAdvanceDoneFall (s : State) : Result :=
  .next (s.mapTrack fun t => { t with advanceDoneLine := false })

/-- CADENCE_EXPIRY (R26, R28). -/
def execCadenceExpiry (s : State) : Result := .next s.cadenceExpiry

/-- SETTLE_EXPIRY (R35). -/
def execSettleExpiry (s : State) : Result := .next s.settleExpiry

/-- ADVANCE_LIMIT_EXPIRY (R38). -/
def execAdvanceLimitExpiry (s : State) : Result := .next s.advanceLimitExpiry

/-- EXIT_WAIT_EXPIRY (R45). -/
def execExitWaitExpiry (s : State) : Result := .next s.exitWaitExpiry

/-- EXPOSURE_TICK (R114, R117). -/
def execExposureTick (s : State) : Result := .next s.exposureExpiry

/-- BASE_TICK: the counts of the part rise by one base tick (R25, R26, R114, R177); an expiry that
the last tick left due is taken first (log entry 4). -/
def execBaseTick (s : State) : Result := .next s.takeOverdue.countTick

end Sys2Proof.Machine
end

