-- ==== Sys2Proof/Machine/AdmissionRequests.lean ====
section
/-! DEFINITION. The requests of the admission unit: HANG, WITHDRAW, CHANGEOVER and
CANCEL_CHANGEOVER. -/

namespace Sys2Proof.Machine

/-- The rods that the staging queue and the boarding slot hold together; a recorded gap is no rod
(R67). -/
def Admission.rodsHeld (a : Admission) : Nat :=
  match a.boarding with
  | .rod _ => a.staging.length + 1
  | .gap => a.staging.length
  | .empty => a.staging.length

/-- Whether HANG may take a rod of a format: any while there is no running format, otherwise the
running format or the pending one (R69). -/
def Admission.takesFormat (a : Admission) (format : Nat) : Bool :=
  match a.running with
  | none => true
  | some running =>
    decide (format = running) ||
    match a.mode with
    | .changeover pending _ => decide (format = pending)
    | .open_ => false
    | .closed => false

/-- The record of a rod at its HANG (R1). -/
def newRod (id : Nat) (lot : Fin 32) (format : Nat) (hangStep : Word32) : RodRecord :=
  { id := id, lot := lot, format := format, place := .staged, hangStep := hangStep, dose := 0,
    offSchedule := 0, marks := {}, grade := .clean }

/-- The part after an accepted HANG into the OPEN lot: record, lot count, queue tail, and where
there was none the running format, with the zones recomputed (R70, R98). -/
def State.hangRod (s : State) (id : Nat) (lot : Fin 32) (format : Nat) : State :=
  let hung : State :=
    { s with
      registry :=
        { rods := insertRod (newRod id lot format s.track.stepNumber) s.registry.rods
          lots := changeLot s.registry.lots lot fun l => { l with rodCount := l.rodCount + 1 } }
      admission := { s.admission with
        staging := s.admission.staging ++ [id]
        running := some (s.admission.running.getD format) } }
  if s.admission.running.isNone then hung.recomputeZones else hung

/-- HANG at the admission unit: the checks of R69 in order. -/
def hangReply (id : Nat) (s : State) : Reply :=
  if id = 0 then refuse s .range
  else if Config.stagingCapacity ≤ s.admission.rodsHeld then refuse s .full
  else if (s.rod id).isSome then refuse s .duplicate
  else
    match openLotIndex s.registry.lots with
    | none => refuse s .noLot
    | some i =>
      match s.registry.lots[i] with
      | none => refuse s .noLot
      | some l =>
        if s.admission.takesFormat l.format then accept (s.hangRod id i l.format)
        else refuse s .wrongFormat

/-- WITHDRAW at the admission unit, by the place of the rod named (R71). -/
def withdrawReply (id : Nat) (s : State) : Reply :=
  if id = 0 then refuse s .range
  else
    match s.rod id with
    | none => refuse s .notFound
    | some r =>
      match r.place with
      | .staged =>
        accept { s.deleteRod id with
          admission := { s.admission with staging := s.admission.staging.filter (· != id) } }
      | .boarding => refuse s .tooLate
      | .onTrack _ _ => refuse s .state
      | .exited _ _ _ => refuse s .state

/-- The required gap for a pending format: its lead gap where the drying classes differ, 0 where
they are equal (R79). -/
def requiredGapOf (pending running : FormatEntry) : Nat :=
  if pending.dryingClass = running.dryingClass then 0 else pending.leadGap

/-- CHANGEOVER at the admission unit: the checks of R78 in order. -/
def changeoverReply (link : Link) (format : Nat) (s : State) : Reply :=
  if ¬ s.holds link .changeover = true then refuse s .claim
  else if ¬ isFormatNumber format = true then refuse s .range
  else if s.admission.mode ≠ .open_ then refuse s .state
  else
    match s.admission.running with
    | none => refuse s .state
    | some running =>
      match s.format format with
      | none => refuse s .notFound
      | some entry =>
        if format = running then refuse s .range
        else accept (s.setMode (.changeover format (requiredGapOf entry (s.formatFields running))))

/-- CANCEL_CHANGEOVER at the admission unit (R83). -/
def cancelChangeoverReply (link : Link) (s : State) : Reply :=
  if ¬ s.holds link .changeover = true then refuse s .claim
  else
    match s.admission.mode with
    | .changeover _ _ => accept (s.setMode .open_)
    | .open_ => refuse s .state
    | .closed => refuse s .state

/-! ## Meanings -/

/-- HANG (R69, R70). -/
def execHang (link : Link) (rod : BitVec 16) (s : State) : Result :=
  .next (s.serve link isSpreader (hangReply rod.toNat))

/-- WITHDRAW (R71). -/
def execWithdraw (link : Link) (rod : BitVec 16) (s : State) : Result :=
  .next (s.serve link isSpreader (withdrawReply rod.toNat))

/-- CHANGEOVER (R78). -/
def execChangeover (link : Link) (format : Byte) (s : State) : Result :=
  .next (s.serve link isSupervisorOrSpreader (changeoverReply link format.toNat))

/-- CANCEL_CHANGEOVER (R83). -/
def execCancelChangeover (link : Link) (s : State) : Result :=
  .next (s.serve link isSupervisorOrSpreader (cancelChangeoverReply link))

end Sys2Proof.Machine
end

