-- ==== Sys2Proof/Machine/AuthorityRequests.lean ====
section
/-! DEFINITION. The requests on claims, purge and configuration: CLAIM, RELEASE, PURGE, LOCK_CONFIG,
SET_TRACK_LENGTH, SET_WINDOW, SET_FORMAT and SET_INTERVAL. -/

namespace Sys2Proof.Machine

/-- CLAIM at the authority unit: the lines of R145 in order. -/
def claimReply (link : Link) (kind : Byte) (s : State) : Reply :=
  match claimKindOf kind with
  | none => refuse s .range
  | some k =>
    if ¬ k.permits s.links[link].class_ = true then refuse s .class_
    else
      match s.authority.claims.holder k with
      | some h => if h = link then accept s else refuse s .claimedElsewhere
      | none => if s.grantable k then accept (s.grant link k) else refuse s .state

/-- RELEASE at the authority unit (R147). -/
def releaseReply (link : Link) (kind : Byte) (s : State) : Reply :=
  match claimKindOf kind with
  | none => refuse s .range
  | some k => if s.holds link k then accept (s.loseClaim k) else refuse s .claim

/-- The part after an accepted PURGE: admission CLOSED, the drain in progress, and the drain
complete at once when the track holds no rod and the step is IDLE (R150). -/
def State.beginDrain (s : State) : State :=
  let draining := (s.setMode .closed).mapAuthority fun a => { a with drain := true }
  if s.track.step = .idle then draining.checkDrain else draining

/-- PURGE at the authority unit: the checks of R150 in order. -/
def purgeReply (link : Link) (s : State) : Reply :=
  if ¬ s.holds link .purge = true then refuse s .claim
  else if s.authority.drain then refuse s .state
  else
    match s.track.motion with
    | .stopped => refuse s .state
    | .holding => refuse s .state
    | .running => accept s.beginDrain
    | .held => accept s.beginDrain

/-- LOCK_CONFIG at the authority unit: the lock is set and the RECONFIGURE claim released (R157). -/
def lockConfigReply (link : Link) (s : State) : Reply :=
  match s.editRefusal link with
  | some reason => refuse s reason
  | none =>
    accept ((s.setHolder .reconfigure none).mapAuthority fun a => { a with lock := true })

/-- A configuration edit: the two checks of R156, then its own. -/
def onEdit (link : Link) (body : State → Reply) (s : State) : Reply :=
  match s.editRefusal link with
  | some reason => refuse s reason
  | none => body s

/-- Whether an enabled window has its limit at or above a new track length (R158). -/
def State.windowBeyond (s : State) (length : Nat) : Bool :=
  (List.finRange 8).any fun z =>
    s.zones.channels[z].enabled && decide (length ≤ s.zones.channels[z].limit)

/-- SET_TRACK_LENGTH at the track controller: the track is rebuilt as L gaps (R22, R158). -/
def setTrackLengthEdit (length : Nat) (s : State) : Reply :=
  if ¬ inRange Config.trackMin Config.trackMax length = true then refuse s .range
  else if s.windowBeyond length then refuse s .range
  else accept (s.mapTrack fun t => { t with slots := List.replicate length none })

/-- SET_WINDOW at the zone monitor: the checks of R94 in order, the effects of R95, and the
recomputation of R98. -/
def setWindowEdit (zone : Byte) (base limit : Nat) (s : State) : Reply :=
  match zoneOf zone with
  | none => refuse s .range
  | some z =>
    if ¬ (inRange 0 1023 base && inRange 0 1023 limit) = true then refuse s .range
    else if base ≤ limit ∧ s.track.length ≤ limit + 1 then refuse s .range
    else if base ≤ limit ∧ s.windowTaken z base limit = true then refuse s .range
    else
      accept (s.changeChannel z fun c =>
        c.setWindow base limit (s.governingFormat base limit)).recomputeZones

/-- Whether a lot that is not FREE is of a format (R159). -/
def formatInUse (lots : LotTable) (format : Nat) : Bool :=
  (List.finRange 32).any fun i =>
    match lots[i] with
    | none => false
    | some l => decide (l.format = format)

/-- The part with one entry of the format table written, the zones it governs flagged (R101,
R159). -/
def State.writeFormat (s : State) (i : Fin 16) (format : Nat) (entry : Option FormatEntry) : State :=
  (s.mapAuthority fun a => { a with formats := a.formats.set i entry }).flagGoverned format

/-- SET_FORMAT: the checks of R159 in order. -/
def setFormatEdit (f : FormatOperand) (s : State) : Reply :=
  match formatIndex f.format.toNat, flagOf f.isDefined with
  | some i, some true =>
    if formatEntryInRange (formatEntryOf f) then
      accept (s.writeFormat i f.format.toNat (some (formatEntryOf f)))
    else refuse s .range
  | some i, some false =>
    if s.admission.running = some f.format.toNat ∨
        formatInUse s.registry.lots f.format.toNat = true then refuse s .state
    else accept (s.writeFormat i f.format.toNat none)
  | _, _ => refuse s .range

/-- The part with one configured value written; the exposure interval returns its counter to 0
(R115, R160). -/
def State.writeInterval (s : State) (v : Nat) : Interval → State
  | .settle => s.mapTrack fun t => { t with settleInterval := v }
  | .advanceLimit => s.mapTrack fun t => { t with advanceLimit := v }
  | .exitWaitLimit => s.mapTrack fun t => { t with exitWaitLimit := v }
  | .exposure => { s with exposure := { s.exposure with interval := v, counter := 0 } }
  | .stalenessLimit => { s with zones := { s.zones with stalenessLimit := v } }

/-- SET_INTERVAL (R160). -/
def setIntervalEdit (selector : Byte) (v : Nat) (s : State) : Reply :=
  match intervalOf selector with
  | none => refuse s .range
  | some k => if intervalInRange k v then accept (s.writeInterval v k) else refuse s .range

/-! ## Meanings -/

/-- CLAIM (R145, R146). -/
def execClaim (link : Link) (kind : Byte) (s : State) : Result :=
  .next (s.serve link isSupervisorOrSpreader (claimReply link kind))

/-- RELEASE (R147). -/
def execRelease (link : Link) (kind : Byte) (s : State) : Result :=
  .next (s.serve link isSupervisorOrSpreader (releaseReply link kind))

/-- PURGE (R150). -/
def execPurge (link : Link) (s : State) : Result :=
  .next (s.serve link isSupervisor (purgeReply link))

/-- LOCK_CONFIG (R157). -/
def execLockConfig (link : Link) (s : State) : Result :=
  .next (s.serve link isSupervisor (lockConfigReply link))

/-- SET_TRACK_LENGTH (R22, R156, R158). -/
def execSetTrackLength (link : Link) (length : BitVec 16) (s : State) : Result :=
  .next (s.serve link isSupervisor (onEdit link (setTrackLengthEdit length.toNat)))

/-- SET_WINDOW (R94, R95, R156). -/
def execSetWindow (link : Link) (zone : Byte) (base limit : BitVec 16) (s : State) : Result :=
  .next (s.serve link isSupervisor (onEdit link (setWindowEdit zone base.toNat limit.toNat)))

/-- SET_FORMAT (R156, R159). -/
def execSetFormat (link : Link) (entry : FormatOperand) (s : State) : Result :=
  .next (s.serve link isSupervisor (onEdit link (setFormatEdit entry)))

/-- SET_INTERVAL (R156, R160). -/
def execSetInterval (link : Link) (selector : Byte) (value : BitVec 16) (s : State) : Result :=
  .next (s.serve link isSupervisor (onEdit link (setIntervalEdit selector value.toNat)))

end Sys2Proof.Machine
end

