-- ==== Sys2Proof/Machine/ExitRequests.lean ====
section
/-! DEFINITION. The requests of the exit unit: TAKE and CONFIRM. -/

namespace Sys2Proof.Machine

/-- The head rod after a resolution at TAKE: LOT_HELD and CHAIN_FAULT add their mark and turn the
disposition to QUARANTINE (R136). -/
def RodRecord.revise (c : ChainResult) (r : RodRecord) : RodRecord :=
  match c with
  | .clear => r
  | .lotHeld => quarantined (r.applyResolution c)
  | .chainFault => quarantined (r.applyResolution c)
where
  /-- The disposition of an EXITED rod becomes QUARANTINE. -/
  quarantined (r : RodRecord) : RodRecord :=
    match r.place with
    | .exited b e _ => { r with place := .exited b e .quarantine }
    | .staged => r
    | .boarding => r
    | .onTrack _ _ => r

/-- The events of a resolution at TAKE: CHAIN_FAULT as the resolution gives, and QUARANTINE where
the disposition was not QUARANTINE and becomes so (R134, R136). -/
def reviseEvents (c : ChainResult) (r : RodRecord) : List EventClass :=
  c.events ++
  if r.disposition ≠ some .quarantine ∧ (r.revise c).disposition = some .quarantine then
    [.quarantine]
  else []

/-- TAKE at the exit unit: EMPTY, or the head record as it stands after its lot chain is resolved
again; the events reach the router after the answer (R134, R135, R136). -/
def takeReply (s : State) : Reply :=
  match s.exitQueue with
  | [] => { state := s, answer := .empty }
  | id :: _ =>
    match s.rod id with
    | none => { state := s, answer := .data (s.exitRecord id) }
    | some r =>
      let result := resolveChain s.registry.lots r.lot
      let revised := s.mapRods (updateRod id (RodRecord.revise result))
      { state := revised, answer := .data (revised.exitRecord id), after := reviseEvents result r }

/-- The part after an accepted CONFIRM of the head: the record leaves the queue and the rod is
deleted; a step in EXIT_WAIT moves to ADVANCING at once (R44, R137). -/
def State.confirmHead (s : State) (id : Nat) : Change :=
  let removed := { s.deleteRod id with exitQueue := s.exitQueue.tail }
  match s.track.step with
  | .exitWait _ => removed.enterAdvancing
  | .idle => (removed, [])
  | .advancing _ => (removed, [])
  | .settling _ => (removed, [])
  | .suspended => (removed, [])

/-- CONFIRM at the exit unit: the checks of R137 in order. -/
def confirmReply (id : Nat) (s : State) : Reply :=
  if id = 0 then refuse s .range
  else if ¬ id ∈ s.exitQueue then refuse s .notFound
  else if s.exitQueue.head? ≠ some id then refuse s .mismatch
  else accept (settleEvents (s.confirmHead id))

/-! ## Meanings -/

/-- TAKE (R135). -/
def execTake (link : Link) (s : State) : Result := .next (s.serve link isStripper takeReply)

/-- CONFIRM (R137). -/
def execConfirm (link : Link) (rod : BitVec 16) (s : State) : Result :=
  .next (s.serve link isStripper (confirmReply rod.toNat))

end Sys2Proof.Machine
end

