-- ==== Sys2Proof/Machine/LinkRequests.lean ====
section
/-! DEFINITION. The requests and events of the link unit: LINK_STATUS, SEEK, READ, the turns of a
stream, the end of a transmission, discarded frames, breaks. -/

namespace Sys2Proof.Machine

/-- LINK_STATUS: the channel's status, and the last error becomes none (R179). -/
def linkStatusReply (link : Link) (s : State) : Reply :=
  { state := s.changeLink link fun c => { c with lastError := .clear }
    answer := .data s.links[link].statusPayload }

/-- SEEK: the checks of R181 in order, then the cursor is set. -/
def seekReply (link : Link) (space : Byte) (index : Nat) (s : State) : Reply :=
  match spaceOf space with
  | none => refuse s .range
  | some k =>
    if k.readTier < s.links[link].class_.tier then refuse s .tier
    else if ¬ k.bounds index = true then refuse s .range
    else accept (s.changeLink link fun c => { c with cursor := some { space := k, index := index } })

/-- READ: refused RANGE or STATE, or answered DATA with the stream to follow (R182). -/
def readReply (link : Link) (count : Nat) (advance : Byte) (s : State) : Reply :=
  match flagOf advance with
  | none => refuse s .range
  | some adv =>
    if ¬ inRange 1 Config.readMax count = true then refuse s .range
    else if s.links[link].cursor.isNone then refuse s .state
    else { state := s, answer := .data []
           stream := some { left := count, advance := adv, sent := 0 } }

/-! ## Meanings -/

/-- LINK_STATUS (R179). -/
def execLinkStatus (link : Link) (s : State) : Result :=
  .next (s.serve link anyClass (linkStatusReply link))

/-- SEEK (R181). -/
def execSeek (link : Link) (space : Byte) (index : BitVec 16) (s : State) : Result :=
  .next (s.serve link anyClass (seekReply link space index.toNat))

/-- READ (R182). -/
def execRead (link : Link) (count advance : Byte) (s : State) : Result :=
  .next (s.serve link anyClass (readReply link count.toNat advance))

/-- STREAM_RECORD: the next turn of a stream (R182); there is none unless the link is STREAMING
(log entry 3). -/
def execStreamRecord (link : Link) (s : State) : Result :=
  match s.links[link].transmitter with
  | .streaming j => .next (s.streamTurn link j)
  | .idle => .next s
  | .responding _ => .next s

/-- TRANSMIT_COMPLETE: the transmitter returns to IDLE, or enters STREAMING after an accepted READ
(R178, R182); nothing ends unless the link is RESPONDING (log entry 3). -/
def execTransmitComplete (link : Link) (s : State) : Result :=
  match s.links[link].transmitter with
  | .responding none => .next (s.changeLink link fun c => { c with transmitter := .idle })
  | .responding (some j) => .next (s.beginStream link j)
  | .idle => .next s
  | .streaming _ => .next s

/-- FRAME_DISCARDED: the frame under way gets no response, the receiver returns to HUNT and the error
is latched (R177, R179). In HUNT no frame is under way, and faults are ignored there: so after a
break or a device reset, and while the link transmits, there is nothing to discard (R177, R187; an
error that ends no frame: log entry 22). An inter-byte limit that has run out has ended the frame
before (R187). -/
def execFrameDiscarded (link : Link) (error : LinkError) (s : State) : Result :=
  if error.endsFrame then
    match (s.limitExpiry link).links[link].receiver with
    | .body _ _ => .next (s.discardFrame link error)
    | .hunt => .next (s.limitExpiry link)
  else .next s

/-- TRUNCATED: more than 2 base ticks have passed since the last byte of a frame; it is discarded and
TRUNCATED latched (R177). Before that, and in HUNT, the limit does not run out (log entry 3). -/
def execTruncated (link : Link) (s : State) : Result := .next (s.limitExpiry link)

/-- CONTENTION: an opening mark received while the link transmits (R178); while it does not, none
is (log entry 3). -/
def execContention (link : Link) (s : State) : Result :=
  match s.links[link].arrival with
  | .contended => .next (s.discardMark link)
  | .lost => .next s
  | .taken => .next s

/-- BREAK (R185). -/
def execLineBreak (link : Link) (s : State) : Result := .next (s.resetLink link)

/-- LINE_RETURNED_TO_MARKING: the receiver takes frames again (R185). -/
def execLineReturnedToMarking (link : Link) (s : State) : Result :=
  .next (s.changeLink link fun c => { c with spacing := false })

end Sys2Proof.Machine
end

