-- ==== Sys2Proof/Machine/LotRequests.lean ====
section
/-! DEFINITION. The requests on the lot table: OPEN_LOT, CLOSE_LOT, HOLD_LOT, RELEASE_LOT, FOLD_LOT
and UNFOLD_LOT. -/

namespace Sys2Proof.Machine

/-- The new lot of an OPEN_LOT (R11). -/
def newLot (number format : Nat) : Lot :=
  { status := .opened, number := number, format := format, rodCount := 0, held := false,
    forward := none, referrers := 0 }

/-- The lot table after an accepted OPEN_LOT: the OPEN lot is closed, and freed if it is spent; then
the entry that was the lowest FREE one when the request was taken becomes OPEN (R11). -/
def openLotAt (lots : LotTable) (free : Fin 32) (number format : Nat) : LotTable :=
  let closed :=
    match openLotIndex lots with
    | none => lots
    | some i => closeLotAt lots i
  closed.set free (some (newLot number format))

/-- OPEN_LOT at the registry: the checks of R11 in order. -/
def openLotReply (number format : Nat) (s : State) : Reply :=
  if number = 0 ∨ ¬ isFormatNumber format = true then refuse s .range
  else if (s.format format).isNone then refuse s .notFound
  else if (lotIndexOf s.registry.lots number).isSome then refuse s .duplicate
  else
    match lowestFree s.registry.lots with
    | none => refuse s .full
    | some free =>
      { state := s.mapLots fun lots => openLotAt lots free number format
        answer := .data [byteOf free.val] }

/-- CLOSE_LOT at the registry (R12). -/
def closeLotReply (s : State) : Reply :=
  match openLotIndex s.registry.lots with
  | none => refuse s .state
  | some i => accept (s.mapLots fun lots => closeLotAt lots i)

/-- A request that names one lot: refused RANGE for number 0 and NOT_FOUND where no entry that is
not FREE carries it (R15, R16). -/
def onLot (number : Nat) (s : State) (body : Fin 32 → Reply) : Reply :=
  if number = 0 then refuse s .range
  else
    match lotIndexOf s.registry.lots number with
    | none => refuse s .notFound
    | some i => body i

/-- HOLD_LOT and RELEASE_LOT write the held flag (R16). -/
def writeHeldReply (number : Nat) (held : Bool) (s : State) : Reply :=
  onLot number s fun i =>
    accept (s.mapLots fun lots => changeLot lots i fun l => { l with held := held })

/-- The lot table after a fold of `a` into `b`: `a` forwards to `b`, whose referrer count rises
(R14). -/
def foldAt (lots : LotTable) (a b : Fin 32) : LotTable :=
  changeLot (changeLot lots a fun l => { l with forward := some b }) b
    fun l => { l with referrers := l.referrers + 1 }

/-- FOLD_LOT at the registry: the checks of R14 in order. -/
def foldLotReply (numberA numberB : Nat) (s : State) : Reply :=
  if numberA = 0 ∨ numberB = 0 then refuse s .range
  else
    match lotIndexOf s.registry.lots numberA with
    | none => refuse s .notFound
    | some a =>
      match lotIndexOf s.registry.lots numberB with
      | none => refuse s .notFound
      | some b =>
        if numberA = numberB then refuse s .range
        else if (s.registry.lots[a].bind (·.forward)).isSome then refuse s .state
        else accept (s.mapLots fun lots => foldAt lots a b)

/-- The lot table after an unfold of `a` from `b`: the forward is removed, `b`'s referrer count
falls, and `b` is freed with its cascade if it is spent (R15). -/
def unfoldAt (lots : LotTable) (a b : Fin 32) : LotTable :=
  freeIfSpent
    (changeLot (changeLot lots a fun l => { l with forward := none }) b
      fun l => { l with referrers := l.referrers - 1 }) b

/-- UNFOLD_LOT at the registry (R15). -/
def unfoldLotReply (number : Nat) (s : State) : Reply :=
  onLot number s fun a =>
    match s.registry.lots[a].bind (·.forward) with
    | none => refuse s .state
    | some b => accept (s.mapLots fun lots => unfoldAt lots a b)

/-! ## Meanings -/

/-- OPEN_LOT (R11). -/
def execOpenLot (link : Link) (number : BitVec 24) (format : Byte) (s : State) : Result :=
  .next (s.serve link isSpreader (openLotReply number.toNat format.toNat))

/-- CLOSE_LOT (R12). -/
def execCloseLot (link : Link) (s : State) : Result :=
  .next (s.serve link isSpreader closeLotReply)

/-- HOLD_LOT (R16). -/
def execHoldLot (link : Link) (number : BitVec 24) (s : State) : Result :=
  .next (s.serve link isSupervisor (writeHeldReply number.toNat true))

/-- RELEASE_LOT (R16). -/
def execReleaseLot (link : Link) (number : BitVec 24) (s : State) : Result :=
  .next (s.serve link isSupervisor (writeHeldReply number.toNat false))

/-- FOLD_LOT (R14). -/
def execFoldLot (link : Link) (lotA lotB : BitVec 24) (s : State) : Result :=
  .next (s.serve link isSupervisor (foldLotReply lotA.toNat lotB.toNat))

/-- UNFOLD_LOT (R15). -/
def execUnfoldLot (link : Link) (lotA : BitVec 24) (s : State) : Result :=
  .next (s.serve link isSupervisor (unfoldLotReply lotA.toNat))

end Sys2Proof.Machine
end

