-- ==== Sys2Proof/Machine/MotionRequests.lean ====
section
/-! DEFINITION. The requests on motion and step: START, HOLD, RESUME, STOP, SET_CADENCE,
CONFIRM_STEP and ABANDON_STEP. -/

namespace Sys2Proof.Machine

/-- The track controller after an accepted START: RUNNING with the cadence counter from 0, and an
asserted HOLD line taken up as a rising edge would be (R56). -/
def TrackControl.start (t : TrackControl) : TrackControl :=
  let running := { t with motion := .running, cadenceCount := 0 }
  if t.holdLine then running.addCause .line else running

/-- START reopens an admission that a purge has closed (R57). -/
def AdmissionMode.reopened : AdmissionMode → AdmissionMode
  | .closed => .open_
  | .open_ => .open_
  | .changeover p g => .changeover p g

/-- START at the track controller (R56, R57). -/
def startReply (s : State) : Reply :=
  match s.track.motion with
  | .stopped =>
    if ¬ s.authority.lock = true ∨ s.track.length = 0 then refuse s .notReady
    else accept ((s.mapTrack TrackControl.start).setMode s.admission.mode.reopened)
  | .running => refuse s .state
  | .holding => refuse s .state
  | .held => refuse s .state

/-- HOLD at the track controller (R53). -/
def holdReply (s : State) : Reply :=
  match s.track.motion with
  | .stopped => refuse s .state
  | .running => accept (s.mapTrack (TrackControl.addCause .command))
  | .holding => accept (s.mapTrack (TrackControl.addCause .command))
  | .held => accept (s.mapTrack (TrackControl.addCause .command))

/-- The track controller after a RESUME in HELD: the causes are cleared, RUNNING, the cadence
counter from 0 (R58). -/
def TrackControl.resumeHeld (t : TrackControl) : TrackControl :=
  { t with motion := .running, causes := {}, cadenceCount := 0 }

/-- The track controller after a RESUME in HOLDING: the causes are cleared and RUNNING; the step and
the cadence counter go on (R59). -/
def TrackControl.resumeHolding (t : TrackControl) : TrackControl :=
  { t with motion := .running, causes := {} }

/-- RESUME at the track controller (R58, R59). -/
def resumeReply (s : State) : Reply :=
  match s.track.motion with
  | .held =>
    if s.track.step = .suspended ∨ s.track.causes.line = true then refuse s .state
    else accept (s.mapTrack TrackControl.resumeHeld)
  | .holding =>
    if s.track.causes.line then refuse s .state
    else accept (s.mapTrack TrackControl.resumeHolding)
  | .running => refuse s .state
  | .stopped => refuse s .state

/-- The part after an accepted STOP: STOPPED, and a drain in progress is complete (R60). -/
def State.stopLine (s : State) : State := (s.mapTrack TrackControl.enterStopped).checkDrain

/-- Whether the track holds no rod and the step is IDLE (R60). -/
def TrackControl.atRest (t : TrackControl) : Bool := t.isEmpty && decide (t.step = .idle)

/-- STOP at the track controller (R60). -/
def stopReply (s : State) : Reply :=
  match s.track.motion with
  | .running => if s.track.atRest then accept s.stopLine else refuse s .state
  | .held => if s.track.atRest then accept s.stopLine else refuse s .state
  | .holding => refuse s .state
  | .stopped => refuse s .state

/-- The track controller after a SET_CADENCE: a new value at or below the count returns the counter
to 0 (R27). -/
def TrackControl.setCadence (compare : Nat) (t : TrackControl) : TrackControl :=
  { t with cadenceCompare := compare
           cadenceCount := if compare ≤ t.cadenceCount then 0 else t.cadenceCount }

/-- SET_CADENCE at the track controller (R27). -/
def setCadenceReply (compare : Nat) (s : State) : Reply :=
  accept (s.mapTrack (TrackControl.setCadence compare))

/-- CONFIRM_STEP at the track controller: completion as by a late arrival, without LATE_ADVANCE
(R41). -/
def confirmStepReply (s : State) : Reply :=
  if s.track.step = .suspended then accept (settleEvents s.completeSuspended)
  else refuse s .state

/-- ABANDON_STEP at the track controller (R42). -/
def abandonStepReply (s : State) : Reply :=
  if s.track.step = .suspended then accept s.abandonSuspended
  else refuse s .state

/-! ## Meanings -/

/-- START (R56). -/
def execStart (link : Link) (s : State) : Result := .next (s.serve link isSupervisor startReply)

/-- HOLD (R53). -/
def execHold (link : Link) (s : State) : Result := .next (s.serve link isSupervisor holdReply)

/-- RESUME (R58, R59). -/
def execResume (link : Link) (s : State) : Result := .next (s.serve link isSupervisor resumeReply)

/-- STOP (R60). -/
def execStop (link : Link) (s : State) : Result := .next (s.serve link isSupervisor stopReply)

/-- SET_CADENCE (R27). -/
def execSetCadence (link : Link) (compare : BitVec 16) (s : State) : Result :=
  .next (s.serve link isSupervisor (setCadenceReply compare.toNat))

/-- CONFIRM_STEP (R41). -/
def execConfirmStep (link : Link) (s : State) : Result :=
  .next (s.serve link isSupervisor confirmStepReply)

/-- ABANDON_STEP (R42). -/
def execAbandonStep (link : Link) (s : State) : Result :=
  .next (s.serve link isSupervisor abandonStepReply)

end Sys2Proof.Machine
end

