-- ==== Sys2Proof/Machine/RouterRequests.lean ====
section
/-! DEFINITION. The requests of the event router: SET_ROUTE, SILENCE, READ_NOTES and
CLEAR_CAPTURE. -/

namespace Sys2Proof.Machine

/-- SET_ROUTE (R164). -/
def setRouteReply (eventClass destination : Byte) (s : State) : Reply :=
  match eventClassOf eventClass, destinationOf destination with
  | some c, some d =>
    accept { s with router := { s.router with routes := s.router.routes.set c.index d } }
  | _, _ => refuse s .range

/-- SILENCE: the horn request clears (R166). -/
def silenceReply (s : State) : Reply :=
  accept { s with router := { s.router with horn := false } }

/-- READ_NOTES: the issuing link's set with the horn and routing state; the set is emptied (R167). -/
def readNotesReply (link : Link) (s : State) : Reply :=
  { state := s.emptyNotes link, answer := .data (s.router.notesPayload link) }

/-- An empty capture with both flags clear (R170). -/
def Capture.empty : Capture := { record := none, minorSeen := false, majorSeen := false }

/-- CLEAR_CAPTURE (R172). -/
def clearCaptureReply (zone : Byte) (s : State) : Reply :=
  match zoneOf zone with
  | none => refuse s .range
  | some z => accept (s.changeCapture z fun _ => Capture.empty)

/-! ## Meanings -/

/-- SET_ROUTE (R164). -/
def execSetRoute (link : Link) (eventClass destination : Byte) (s : State) : Result :=
  .next (s.serve link isSupervisor (setRouteReply eventClass destination))

/-- SILENCE (R166). -/
def execSilence (link : Link) (s : State) : Result :=
  .next (s.serve link isSupervisor silenceReply)

/-- READ_NOTES (R167). -/
def execReadNotes (link : Link) (s : State) : Result :=
  .next (s.serve link isSupervisor (readNotesReply link))

/-- CLEAR_CAPTURE (R172). -/
def execClearCapture (link : Link) (zone : Byte) (s : State) : Result :=
  .next (s.serve link isSupervisor (clearCaptureReply zone))

end Sys2Proof.Machine
end

