-- ==== Sys2Proof/Machine/ZoneRequests.lean ====
section
/-! DEFINITION. The requests of the zone monitor that a station or a supervisor issues while the
line runs: SETPOINT, CLIMATE, QUIET and TRIM_SETPOINT. -/

namespace Sys2Proof.Machine

/-- The zone of a class (R174). -/
def StationClass.zone? : StationClass → Option Zone
  | .zone n => some n
  | .unbound => none
  | .supervisor => none
  | .spreader => none
  | .stripper => none

/-- A request of a zone station, for the zone that its link is bound to. -/
def onZone (link : Link) (body : Zone → State → Reply) (s : State) : Reply :=
  match s.links[link].class_.zone? with
  | none => refuse s .class_
  | some z => body z s

/-- SETPOINT at the zone monitor: the governing format with its schedule for the zone, or
NO_SCHEDULE; in either case the schedule-changed flag clears (R103). -/
def setpointReply (z : Zone) (s : State) : Reply :=
  let read := s.changeChannel z fun c => { c with changed := false }
  match s.zones.channels[z].governing with
  | none => { state := read, answer := .noSchedule }
  | some f =>
    { state := read, answer := .data (setpointPayload z f (s.formatFields f).schedules[z]) }

/-- The refusal of a report, by the checks of R104 in order, or none. -/
def State.climateRefusal (s : State) (z : Zone) (r : Report) : Option Reason :=
  if ¬ (inRange 0 16 r.format && inRange 0 1500 r.temperature && inRange 0 100 r.humidity &&
      inRange 0 255 r.doseRate) = true then some .range
  else if s.zones.channels[z].state = .off then some .state
  else if s.zones.channels[z].governing.getD 0 ≠ r.format then some .scheduleChanged
  else none

/-- The part after an accepted report: last report, class, staleness and state (R105), then the
offer to the zone's capture, then the event (R107, R171). -/
def State.acceptReport (s : State) (z : Zone) (r : Report) : State :=
  let k := s.classOfReport z r
  ((s.offerCapture z r).changeChannel z fun c => c.accept r k).routeAll k.events

/-- CLIMATE at the zone monitor (R104, R105). -/
def climateReply (r : Report) (z : Zone) (s : State) : Reply :=
  match s.climateRefusal z r with
  | some reason => refuse s reason
  | none => accept (s.acceptReport z r)

/-- A CLIMATE taken on a quiet link: the report has its effects, no frame is sent, the transmitter
returns to IDLE, and a refusal is latched as the last error, which raises no event (R110, R178,
R179). -/
def State.quietReport (s : State) (link : Link) (reply : Reply) : State :=
  match reply.answer with
  | .refused reason =>
    s.changeLink link fun c =>
      { c with lastError := .refusal reason, contended := false, sent := [] }
  | _ => reply.state.changeLink link fun c => { c with contended := false, sent := [] }

/-- A CLIMATE that arrives on a link: answered like any request, or taken without an answer where
the link is quiet. Only a ZONE link can be quiet. -/
def State.serveClimate (s : State) (link : Link) (r : Report) : State :=
  if s.links[link].arrival = .taken ∧ s.links[link].quiet = true ∧
      isZone s.links[link].class_ = true then
    let s' := (s.limitExpiry link).endFrame link
    s'.quietReport link (onZone link (climateReply r) s')
  else s.serve link isZone (onZone link (climateReply r))

/-- QUIET at the link unit: the flag of the issuing link (R110); its first check is the flag's code
(R180). -/
def quietReply (link : Link) (flag : Byte) (s : State) : Reply :=
  match flagOf flag with
  | none => refuse s .range
  | some on => accept (s.changeLink link fun c => { c with quiet := on })

/-- A schedule with its two setpoints written (R111). -/
def ZoneSchedule.trim (temperature humidity : Nat) (z : ZoneSchedule) : ZoneSchedule :=
  { z with temperature := temperature, humidity := humidity }

/-- A format entry with its two setpoints in one zone written (R111). -/
def FormatEntry.trim (z : Zone) (temperature humidity : Nat) (f : FormatEntry) : FormatEntry :=
  { f with schedules := f.schedules.set z (f.schedules[z].trim temperature humidity) }

/-- The part with the two setpoints of one format in one zone written (R111). -/
def State.trimSetpoint (s : State) (i : Fin 16) (z : Zone) (temperature humidity : Nat) : State :=
  { s with authority := { s.authority with
      formats := s.authority.formats.set i
        (s.authority.formats[i].map (FormatEntry.trim z temperature humidity)) } }

/-- TRIM_SETPOINT at the zone monitor (R111). -/
def trimSetpointReply (format : Nat) (zone : Byte) (temperature humidity : Nat) (s : State) :
    Reply :=
  match formatIndex format, zoneOf zone with
  | some i, some z =>
    if ¬ (inRange 200 1100 temperature && inRange 10 95 humidity) = true then refuse s .range
    else if (s.format format).isNone then refuse s .notFound
    else accept ((s.trimSetpoint i z temperature humidity).flagGoverned format)
  | _, _ => refuse s .range

/-! ## Meanings -/

/-- SETPOINT (R103). -/
def execSetpoint (link : Link) (s : State) : Result :=
  .next (s.serve link isZone (onZone link setpointReply))

/-- CLIMATE (R104, R105, R110). -/
def execClimate (link : Link) (format : Byte) (temperature : BitVec 16) (humidity doseRate : Byte)
    (s : State) : Result :=
  .next (s.serveClimate link
    { format := format.toNat, temperature := temperature.toNat, humidity := humidity.toNat,
      doseRate := doseRate.toNat })

/-- QUIET (R110). -/
def execQuiet (link : Link) (flag : Byte) (s : State) : Result :=
  .next (s.serve link isZone (quietReply link flag))

/-- TRIM_SETPOINT (R111). -/
def execTrimSetpoint (link : Link) (format zone : Byte) (temperature : BitVec 16) (humidity : Byte)
    (s : State) : Result :=
  .next (s.serve link isSupervisor
    (trimSetpointReply format.toNat zone temperature.toNat humidity.toNat))

end Sys2Proof.Machine
end

