-- ==== Sys2Proof/Machine/Reception.lean ====
section
/-! DEFINITION. The reception of a byte in BODY: the request table by which a complete frame reaches
its owning block (R175, R180), what the receiver makes of the next byte of a frame (R177), and
OPENING_MARK_RECEIVED. -/

namespace Sys2Proof.Machine

/-- The link that a request arrives on, the classes that may issue it, and the reply of the owning
block (R180). -/
def replyOf : Instr → Option (Link × (StationClass → Bool) × (State → Reply))
  | .linkStatus link => some (link, anyClass, linkStatusReply link)
  | .seek link space index => some (link, anyClass, seekReply link space index.toNat)
  | .read link count advance => some (link, anyClass, readReply link count.toNat advance)
  | .streamRecord _ => none
  | .transmitComplete _ => none
  | .openLot link number format => some (link, isSpreader, openLotReply number.toNat format.toNat)
  | .closeLot link => some (link, isSpreader, closeLotReply)
  | .holdLot link number => some (link, isSupervisor, writeHeldReply number.toNat true)
  | .releaseLot link number => some (link, isSupervisor, writeHeldReply number.toNat false)
  | .foldLot link lotA lotB => some (link, isSupervisor, foldLotReply lotA.toNat lotB.toNat)
  | .unfoldLot link lotA => some (link, isSupervisor, unfoldLotReply lotA.toNat)
  | .hang link rod => some (link, isSpreader, hangReply rod.toNat)
  | .withdraw link rod => some (link, isSpreader, withdrawReply rod.toNat)
  | .changeover link format =>
    some (link, isSupervisorOrSpreader, changeoverReply link format.toNat)
  | .cancelChangeover link => some (link, isSupervisorOrSpreader, cancelChangeoverReply link)
  | .start link => some (link, isSupervisor, startReply)
  | .hold link => some (link, isSupervisor, holdReply)
  | .resume link => some (link, isSupervisor, resumeReply)
  | .stop link => some (link, isSupervisor, stopReply)
  | .setCadence link compare => some (link, isSupervisor, setCadenceReply compare.toNat)
  | .confirmStep link => some (link, isSupervisor, confirmStepReply)
  | .abandonStep link => some (link, isSupervisor, abandonStepReply)
  | .take link => some (link, isStripper, takeReply)
  | .confirm link rod => some (link, isStripper, confirmReply rod.toNat)
  | .setpoint link => some (link, isZone, onZone link setpointReply)
  | .climate link format temperature humidity doseRate =>
    some (link, isZone, onZone link (climateReply
      { format := format.toNat, temperature := temperature.toNat, humidity := humidity.toNat,
        doseRate := doseRate.toNat }))
  | .quiet link flag => some (link, isZone, quietReply link flag)
  | .trimSetpoint link format zone temperature humidity =>
    some (link, isSupervisor, trimSetpointReply format.toNat zone temperature.toNat humidity.toNat)
  | .claim link kind => some (link, isSupervisorOrSpreader, claimReply link kind)
  | .release link kind => some (link, isSupervisorOrSpreader, releaseReply link kind)
  | .purge link => some (link, isSupervisor, purgeReply link)
  | .lockConfig link => some (link, isSupervisor, lockConfigReply link)
  | .setTrackLength link length =>
    some (link, isSupervisor, onEdit link (setTrackLengthEdit length.toNat))
  | .setWindow link zone base limit =>
    some (link, isSupervisor, onEdit link (setWindowEdit zone base.toNat limit.toNat))
  | .setFormat link entry => some (link, isSupervisor, onEdit link (setFormatEdit entry))
  | .setInterval link selector value =>
    some (link, isSupervisor, onEdit link (setIntervalEdit selector value.toNat))
  | .setRoute link eventClass destination =>
    some (link, isSupervisor, setRouteReply eventClass destination)
  | .silence link => some (link, isSupervisor, silenceReply)
  | .readNotes link => some (link, isSupervisor, readNotesReply link)
  | .clearCapture link zone => some (link, isSupervisor, clearCaptureReply zone)
  | .frameDiscarded _ _ => none
  | .truncated _ => none
  | .contention _ => none
  | .lineBreak _ => none
  | .deviceReset _ => none
  | .holdLineRise => none
  | .holdLineFall => none
  | .advanceDone => none
  | .cadenceExpiry => none
  | .settleExpiry => none
  | .advanceLimitExpiry => none
  | .exitWaitExpiry => none
  | .exposureTick => none
  | .baseTick => none
  | .advanceDoneFall => none
  | .openingMarkReceived _ => none
  | .lineReturnedToMarking _ => none

/-- A complete frame is dispatched to the block that owns its request (R175); a command that is no
request has no frame. -/
def State.dispatch (s : State) (c : Instr) : State :=
  match replyOf c with
  | none => s
  | some (link, may, body) =>
    match c with
    | .climate _ format temperature humidity doseRate =>
      s.serveClimate link
        { format := format.toNat, temperature := temperature.toNat, humidity := humidity.toNat,
          doseRate := doseRate.toNat }
    | _ => s.serve link may body

/-- The next byte of a frame under way whose bytes after the mark are `bytes`: it ends the frame with
an error, completes it, or is collected, and then the inter-byte limit restarts (R177, R187). -/
def State.receiveByte (s : State) (link : Link) (bytes : List Byte) (b : Byte) : State :=
  let collected := bytes ++ [b]
  match readFrame link (openingMark :: collected) with
  | some (.error e) => s.discardFrame link e
  | some (.ok c) => s.dispatch c
  | none => s.changeLink link fun c => { c with receiver := .body 0 collected }

/-- A 7Eh received while the transmitter is IDLE: in HUNT it starts a frame, in BODY it is the next
byte of the frame (R176, R177). -/
def State.receiveMark (s : State) (link : Link) : State :=
  match s.links[link].receiver with
  | .hunt => s.changeLink link fun c => { c with receiver := .body 0 [] }
  | .body _ bytes => s.receiveByte link bytes openingMark

/-- OPENING_MARK_RECEIVED: a 7Eh received while the transmitter is IDLE; while it is not, the 7Eh is
discarded (R177, R178). An inter-byte limit that has run out is taken before it, and the byte is then
taken in HUNT (R187). -/
def execOpeningMarkReceived (link : Link) (s : State) : Result :=
  match s.links[link].arrival with
  | .lost => .next s
  | .contended => .next (s.discardMark link)
  | .taken => .next ((s.limitExpiry link).receiveMark link)

end Sys2Proof.Machine
end

