-- ==== Sys2Proof/Machine/Dispatch.lean ====
section
/-! DEFINITION. The dispatch: one arm per command, each one call of its meaning. -/

namespace Sys2Proof.Machine

def exec (i : Instr) (s : State) : Host.Outcome State Fault Refusal :=
  match i with
  | .linkStatus link => Sys2Proof.Machine.execLinkStatus link s
  | .seek link space index => Sys2Proof.Machine.execSeek link space index s
  | .read link count advance => Sys2Proof.Machine.execRead link count advance s
  | .streamRecord link => Sys2Proof.Machine.execStreamRecord link s
  | .transmitComplete link => Sys2Proof.Machine.execTransmitComplete link s
  | .openLot link number format => Sys2Proof.Machine.execOpenLot link number format s
  | .closeLot link => Sys2Proof.Machine.execCloseLot link s
  | .holdLot link number => Sys2Proof.Machine.execHoldLot link number s
  | .releaseLot link number => Sys2Proof.Machine.execReleaseLot link number s
  | .foldLot link lotA lotB => Sys2Proof.Machine.execFoldLot link lotA lotB s
  | .unfoldLot link lotA => Sys2Proof.Machine.execUnfoldLot link lotA s
  | .hang link rod => Sys2Proof.Machine.execHang link rod s
  | .withdraw link rod => Sys2Proof.Machine.execWithdraw link rod s
  | .changeover link format => Sys2Proof.Machine.execChangeover link format s
  | .cancelChangeover link => Sys2Proof.Machine.execCancelChangeover link s
  | .start link => Sys2Proof.Machine.execStart link s
  | .hold link => Sys2Proof.Machine.execHold link s
  | .resume link => Sys2Proof.Machine.execResume link s
  | .stop link => Sys2Proof.Machine.execStop link s
  | .setCadence link compare => Sys2Proof.Machine.execSetCadence link compare s
  | .confirmStep link => Sys2Proof.Machine.execConfirmStep link s
  | .abandonStep link => Sys2Proof.Machine.execAbandonStep link s
  | .take link => Sys2Proof.Machine.execTake link s
  | .confirm link rod => Sys2Proof.Machine.execConfirm link rod s
  | .setpoint link => Sys2Proof.Machine.execSetpoint link s
  | .climate link format temperature humidity doseRate => Sys2Proof.Machine.execClimate link format temperature humidity doseRate s
  | .quiet link flag => Sys2Proof.Machine.execQuiet link flag s
  | .trimSetpoint link format zone temperature humidity => Sys2Proof.Machine.execTrimSetpoint link format zone temperature humidity s
  | .claim link kind => Sys2Proof.Machine.execClaim link kind s
  | .release link kind => Sys2Proof.Machine.execRelease link kind s
  | .purge link => Sys2Proof.Machine.execPurge link s
  | .lockConfig link => Sys2Proof.Machine.execLockConfig link s
  | .setTrackLength link length => Sys2Proof.Machine.execSetTrackLength link length s
  | .setWindow link zone base limit => Sys2Proof.Machine.execSetWindow link zone base limit s
  | .setFormat link entry => Sys2Proof.Machine.execSetFormat link entry s
  | .setInterval link selector value => Sys2Proof.Machine.execSetInterval link selector value s
  | .setRoute link eventClass destination => Sys2Proof.Machine.execSetRoute link eventClass destination s
  | .silence link => Sys2Proof.Machine.execSilence link s
  | .readNotes link => Sys2Proof.Machine.execReadNotes link s
  | .clearCapture link zone => Sys2Proof.Machine.execClearCapture link zone s
  | .frameDiscarded link error => Sys2Proof.Machine.execFrameDiscarded link error s
  | .truncated link => Sys2Proof.Machine.execTruncated link s
  | .contention link => Sys2Proof.Machine.execContention link s
  | .lineBreak link => Sys2Proof.Machine.execLineBreak link s
  | .deviceReset straps => Sys2Proof.Machine.execDeviceReset straps s
  | .holdLineRise => Sys2Proof.Machine.execHoldLineRise s
  | .holdLineFall => Sys2Proof.Machine.execHoldLineFall s
  | .advanceDone => Sys2Proof.Machine.execAdvanceDone s
  | .cadenceExpiry => Sys2Proof.Machine.execCadenceExpiry s
  | .settleExpiry => Sys2Proof.Machine.execSettleExpiry s
  | .advanceLimitExpiry => Sys2Proof.Machine.execAdvanceLimitExpiry s
  | .exitWaitExpiry => Sys2Proof.Machine.execExitWaitExpiry s
  | .exposureTick => Sys2Proof.Machine.execExposureTick s
  | .baseTick => Sys2Proof.Machine.execBaseTick s
  | .advanceDoneFall => Sys2Proof.Machine.execAdvanceDoneFall s
  | .openingMarkReceived link => Sys2Proof.Machine.execOpeningMarkReceived link s
  | .lineReturnedToMarking link => Sys2Proof.Machine.execLineReturnedToMarking link s

end Sys2Proof.Machine
end

