-- ==== Sys2Proof/Safety.lean ====
section
/-! DEFINITION. The vocabulary of the statements about the part, and the invariants that its rules
give: motion state and step (R50), claims and admission mode (R144, R72), zone channels (R93, R96),
rod records (R5), the places of the rods (R3, R21, R67, R129), and the lot table (R7, R9). -/

namespace Sys2Proof.Machine

/-! ## Vocabulary -/

/-- The link takes a frame that arrives: its line is marking, its transmitter IDLE, and no frame under
way is past its inter-byte limit (R177, R178, R185, R187). -/
abbrev State.ready (s : State) (link : Link) : Prop :=
  s.links[link].spacing = false ∧ s.links[link].transmitter = .idle ∧
    s.links[link].limitDue = false

/-- The link takes a frame, and is bound to a class. -/
abbrev State.readyAs (s : State) (link : Link) (c : StationClass) : Prop :=
  s.ready link ∧ s.links[link].class_ = c

/-- The part with a response given to a link and nothing else changed: the receiver is back in HUNT
(R177), the transmitter RESPONDING (R178), and the response carries the attention of the part as it
stands (R168). -/
def State.answered (s : State) (link : Link) (status : Status) (payload : List Byte := [])
    (stream : Option StreamJob := none) : State :=
  { s with
    links := s.links.set link
      { s.links[link] with
        receiver := .hunt
        transmitter := .responding stream
        contended := false
        sent := [.response status (s.attention link) payload] } }

/-- The first reason of an ordered list of checks that applies. -/
def firstReason : List (Bool × Reason) → Option Reason
  | [] => none
  | (applies, reason) :: rest => if applies then some reason else firstReason rest

/-- The classes that may issue a request, by its command code (the request table of R180). -/
def mayIssue (code : Nat) (c : StationClass) : Bool :=
  match code with
  | 0x01 => true
  | 0x02 => true
  | 0x03 => true
  | 0x10 => isSpreader c
  | 0x11 => isSpreader c
  | 0x20 => isSpreader c
  | 0x21 => isSpreader c
  | 0x22 => isSpreader c || isSupervisor c
  | 0x23 => isSpreader c || isSupervisor c
  | 0x40 => isStripper c
  | 0x41 => isStripper c
  | 0x50 => isZone c
  | 0x51 => isZone c
  | 0x52 => isZone c
  | 0x60 => isSupervisor c || isSpreader c
  | 0x61 => isSupervisor c || isSpreader c
  | _ => isSupervisor c

/-- The entry that a lot chain walk visits at its visit `k`, counted from 0, if it gets so far
(R17). -/
def chainVisit (lots : LotTable) (i : Fin 32) : Nat → Option (Fin 32)
  | 0 => some i
  | k + 1 => (chainVisit lots i k).bind fun j => lots[j].bind (·.forward)

/-- A position is occupied when its slot holds a rod (R97). -/
def TrackControl.occupied (t : TrackControl) (p : Nat) : Bool := ((t.slots[p]?).join).isSome

/-- One lot entry, and only that one, carries a lot number (R7). -/
abbrev namesLot (lots : LotTable) (number : Nat) (i : Fin 32) : Prop :=
  lots[i].map (·.number) = some number ∧
    ∀ j : Fin 32, lots[j].map (·.number) = some number → j = i

/-- No lot entry carries a lot number. -/
abbrev namesNoLot (lots : LotTable) (number : Nat) : Prop :=
  ∀ j : Fin 32, lots[j].map (·.number) ≠ some number

/-- The part with its lot table written. -/
abbrev State.withLots (s : State) (lots : LotTable) : State :=
  { s with registry := { s.registry with lots := lots } }

/-- A drain in progress that the shift completes: the track holds no rod after it (R33, effect 7). -/
def State.drainEnds (s : State) : Bool :=
  s.authority.drain &&
    ((s.admission.boarding.slot :: s.track.slots).take s.track.slots.length).all (·.isNone)

/-- The rod that a shift takes off the track, once its lot chain is resolved (R18, R131 stage 1). -/
def State.resolvedRod (s : State) (r : RodRecord) : RodRecord :=
  match resolveChain s.registry.lots r.lot with
  | .clear => r
  | .lotHeld => r.addMark .lotHeld
  | .chainFault => r.addMark .chainFault

/-- The disposition that a shift fixes for the rod it takes off the track: from the grade after the
resolution, the dose, and the dose window of the rod's format (R131 stage 2, R132, R133). -/
def State.exitDisposition (s : State) (r : RodRecord) : Disposition :=
  dispositionOf (s.resolvedRod r).grade r.dose (s.formatFields r.format).doseMinimum
    (s.formatFields r.format).doseMaximum

/-- The place of a rod after a shift, from the state before it (R3, R33, R131). -/
def State.placeAfterShift (s : State) (r : RodRecord) : Place :=
  match r.place with
  | .staged => .staged
  | .boarding => .onTrack 0 (s.track.stepNumber + 1)
  | .onTrack p b =>
    if s.track.lastSlot = some r.id then .exited b (s.track.stepNumber + 1) (s.exitDisposition r)
    else .onTrack (p + 1) b
  | .exited b e d => .exited b e d

/-- The record of a rod after a shift: its place, and for the rod that leaves the track what the
resolution adds. No other rod gains or loses a mark (R6, R33, R131). -/
def State.rodAfterShift (s : State) (r : RodRecord) : RodRecord :=
  { (if s.track.lastSlot = some r.id then s.resolvedRod r else r) with
    place := s.placeAfterShift r }

/-- The events that a shift raises: at the taking of the exit rod CHAIN_FAULT where the resolution
gives it, and QUARANTINE where the disposition becomes it (R18, R131, R134). -/
def State.exitEvents (s : State) : List EventClass :=
  match s.track.lastSlot.bind s.rod with
  | none => []
  | some r =>
    (if resolveChain s.registry.lots r.lot = .chainFault then [.chainFault] else []) ++
      (if s.exitDisposition r = .quarantine then [.quarantine] else [])

/-- The format of a changeover that the shift completes: the boarding rod is of the pending format
(R81). -/
def State.completedFormat (s : State) : Option Nat :=
  match s.admission.mode, s.admission.boarding with
  | .changeover p _, .rod id => if s.rodFormat id = some p then some p else none
  | _, _ => none

/-- The shift, effects 2 to 7, from the part before it to the part after it and before its events are
routed: every field of the part (R33, R75, R81, R98, R99, R131, R152). -/
structure Shifted (s t : State) : Prop where
  track : t.track =
    let moved : TrackControl :=
      { s.track with
        slots := (s.admission.boarding.slot :: s.track.slots).take s.track.slots.length
        stepNumber := s.track.stepNumber + 1 }
    if s.drainEnds then
      { moved with motion := .stopped, causes := {}, owed := false, cadenceCount := 0 }
    else moved
  rods : t.registry.rods = s.registry.rods.map s.rodAfterShift
  lots : t.registry.lots = s.registry.lots
  exitQueue : t.exitQueue = s.exitQueue ++ s.track.lastSlot.toList
  admission : t.admission =
    { staging := s.admission.staging
      boarding := .empty
      running := s.completedFormat.or s.admission.running
      mode := if s.completedFormat.isSome then .open_ else s.admission.mode
      trailing :=
        match s.admission.boarding with
        | .rod _ => 0
        | .gap => min 255 (s.admission.trailing + 1)
        | .empty => min 255 (s.admission.trailing + 1) }
  authority : t.authority =
    { s.authority with
      claims :=
        { s.authority.claims with
          changeover := if s.completedFormat.isSome then none else s.authority.claims.changeover
          purge := if s.drainEnds then none else s.authority.claims.purge }
      drain := if s.drainEnds then false else s.authority.drain }
  stalenessLimit : t.zones.stalenessLimit = s.zones.stalenessLimit
  channels : ∀ z : Zone, t.zones.channels[z] =
    let c := s.zones.channels[z]
    let found := t.governingFormat c.base c.limit
    if c.enabled = true ∧ c.governing ≠ found then
      { c with governing := found, state := .awaiting, report := none, reportClass := .ok,
               changed := true }
    else c
  exposure : t.exposure = s.exposure
  router : t.router = s.router
  links : t.links = s.links
  pending : t.pending = s.pending

/-- The table of the record spaces: read tier and index bound by space code (R181). -/
def spaceTable : Nat → Option (Nat × Nat × Nat)
  | 0 => some (3, 0, 0)
  | 1 => some (2, 0, 0)
  | 2 => some (2, 0, 1023)
  | 3 => some (2, 0, 7)
  | 4 => some (2, 1, 16)
  | 5 => some (1, 0, 4)
  | 6 => some (1, 0, 7)
  | 7 => some (1, 1, 65535)
  | 8 => some (1, 0, 31)
  | 9 => some (0, 0, 7)
  | 10 => some (0, 0, 2)
  | _ => none

/-- The two, three and four bytes of a number, most significant first (R176). -/
def twoBytes (n : Nat) : List Byte := [BitVec.ofNat 8 (n / 256), BitVec.ofNat 8 n]

def threeBytes (n : Nat) : List Byte := BitVec.ofNat 8 (n / 65536) :: twoBytes n

def fourBytes (n : Nat) : List Byte := BitVec.ofNat 8 (n / 16777216) :: threeBytes n

/-- The part with a link error latched on a link, and LINK_FAULT raised where it is bound (R179). -/
def State.latched (s : State) (link : Link) (e : LinkError) : State :=
  let u : State :=
    { s with links := s.links.set link { s.links[link] with lastError := .link e } }
  if s.links[link].class_ = .unbound then u else u.route .linkFault

/-- The part with one zone channel written. -/
abbrev State.withChannel (s : State) (z : Zone) (c : ZoneChannel) : State :=
  { s with zones := { s.zones with channels := s.zones.channels.set z c } }

/-- The part with the schedule-changed flag set in every enabled zone that a format governs (R101,
R111). -/
def State.scheduleChanged (s : State) (format : Nat) : State :=
  { s with zones := { s.zones with
      channels := Vector.ofFn fun z : Zone =>
        { s.zones.channels[z] with
          changed := s.zones.channels[z].changed ||
            (s.zones.channels[z].enabled &&
              decide (s.zones.channels[z].governing = some format)) } } }

/-! ## Invariants -/

/-- The motion state, the step sub-state and the hold causes as R50 relates them, with the owed flag
(R29), the resting cadence counter (R26, R51, R62), the configuration lock (R50, R156) and the track
length (R21), which START wants to be set (R56). -/
structure MotionInv (s : State) : Prop where
  stoppedRests : s.track.motion = .stopped →
    s.track.isEmpty = true ∧ s.track.step = .idle ∧ s.track.causes = {}
  runningFree : s.track.motion = .running → s.track.causes = {} ∧ s.track.step ≠ .suspended
  holdingAdvances : s.track.motion = .holding →
    s.track.advanceLine = true ∧ s.track.causes.motion = false ∧ s.track.causes.exit = false
  heldRests : s.track.motion = .held → s.track.step = .idle ∨ s.track.step = .suspended
  movingLocked : s.track.motion ≠ .stopped → s.authority.lock = true
  lockedFree : s.authority.lock = true → s.authority.claims.reconfigure = none
  owedRuns : s.track.owed = true → s.track.motion = .running ∧ s.track.step ≠ .idle
  countRests : s.track.motion = .stopped ∨ s.track.motion = .held → s.track.cadenceCount = 0
  length : s.track.length = 0 ∨ (16 ≤ s.track.length ∧ s.track.length ≤ 1024)
  movingLong : s.track.motion ≠ .stopped → s.track.length ≠ 0

/-- Claims, drain and admission mode: holders of permitted classes, CHANGEOVER and PURGE never both
held (R144), a drain under the PURGE claim with admission CLOSED on a line that is not STOPPED
(R150, R152), a changeover under its claim (R84), CLOSED without a drain only in STOPPED (R150). -/
structure ClaimInv (s : State) : Prop where
  changeoverClass : ∀ l, s.authority.claims.changeover = some l →
    s.links[l].class_ = .supervisor ∨ s.links[l].class_ = .spreader
  purgeClass : ∀ l, s.authority.claims.purge = some l → s.links[l].class_ = .supervisor
  reconfigureClass : ∀ l, s.authority.claims.reconfigure = some l → s.links[l].class_ = .supervisor
  exclusive : s.authority.claims.changeover = none ∨ s.authority.claims.purge = none
  drainClosed : s.authority.drain = true →
    s.authority.claims.purge.isSome = true ∧ s.admission.mode = .closed ∧ s.track.motion ≠ .stopped
  changeoverHeld : ∀ p g, s.admission.mode = .changeover p g →
    s.authority.claims.changeover.isSome = true ∧ s.admission.running.isSome = true
  closedFree : s.admission.mode = .closed → s.authority.claims.changeover = none
  closedRests : s.admission.mode = .closed → s.authority.drain = true ∨ s.track.motion = .stopped

/-- The zone channels: OFF exactly when the window is disabled, and then cleared (R93, R95, R96); the
windows apart and within the track (R93); report, class and staleness as R91, R96 and R99 give. -/
structure ZoneInv (s : State) : Prop where
  offDisabled : ∀ z : Zone,
    s.zones.channels[z].state = .off ↔ s.zones.channels[z].enabled = false
  offCleared : ∀ z : Zone, s.zones.channels[z].state = .off →
    s.zones.channels[z].governing = none ∧ s.zones.channels[z].report = none ∧
      s.zones.channels[z].changed = false ∧ s.zones.channels[z].staleness = 0
  noReportOk : ∀ z : Zone,
    s.zones.channels[z].report = none → s.zones.channels[z].reportClass = .ok
  awaitingNone : ∀ z : Zone,
    s.zones.channels[z].state = .awaiting → s.zones.channels[z].report = none
  reportingSome : ∀ z : Zone,
    s.zones.channels[z].state = .reporting → s.zones.channels[z].report.isSome = true
  staleness : ∀ z : Zone, s.zones.channels[z].staleness ≤ 255
  apart : ∀ (z w : Zone) (p : Nat), s.zones.channels[z].covers p = true →
    s.zones.channels[w].covers p = true → z = w
  within : ∀ (z : Zone) (p : Nat), s.zones.channels[z].covers p = true → p < s.track.length

/-- The rod table: one record for a rod ID, in rising order, each with the grade that its marks
require and with its saturating counts within their maxima (R1, R5, R119, R121). -/
structure RodInv (s : State) : Prop where
  sorted : s.registry.rods.Pairwise fun a b => a.id < b.id
  ids : ∀ r ∈ s.registry.rods, 1 ≤ r.id ∧ r.id ≤ 65535
  grade : ∀ r ∈ s.registry.rods, r.grade = r.marks.grade
  dose : ∀ r ∈ s.registry.rods, r.dose ≤ 4194303
  offSchedule : ∀ r ∈ s.registry.rods, r.offSchedule ≤ 255

/-- The places of the rods: every place names exactly the collection that holds the rod (R3, R21,
R67, R129), the queues within their capacities (R67, R129) with room for the rod that a step under
way takes off the track (R34), the boarding slot bound exactly while the step is ADVANCING or
SUSPENDED (R31), and rods that have not boarded untouched (R6). -/
structure PlaceInv (s : State) : Prop where
  staged : ∀ id, id ∈ s.admission.staging ↔ ∃ r, s.rod id = some r ∧ r.place = .staged
  boarding : ∀ id, s.admission.boarding = .rod id ↔ ∃ r, s.rod id = some r ∧ r.place = .boarding
  onTrack : ∀ id p, s.track.slots[p]? = some (some id) ↔
    ∃ r b, s.rod id = some r ∧ r.place = .onTrack p b
  exited : ∀ id, id ∈ s.exitQueue ↔ ∃ r b e d, s.rod id = some r ∧ r.place = .exited b e d
  stagedOnce : s.admission.staging.Nodup
  exitedOnce : s.exitQueue.Nodup
  stagingRoom : s.admission.rodsHeld ≤ 4
  exitRoom : s.exitQueue.length ≤ 8
  exitRoomKept : s.track.advanceLine = true ∨ s.track.step = .suspended →
    s.track.lastSlot.isSome = true → s.exitQueue.length < 8
  bound : s.admission.boarding ≠ .empty ↔ s.track.advanceLine = true ∨ s.track.step = .suspended
  untouched : ∀ id r, s.rod id = some r → (r.place = .staged ∨ r.place = .boarding) →
    r.marks = {} ∧ r.dose = 0 ∧ r.offSchedule = 0

/-- How many rod records name a lot entry (R9). -/
def rodsOfLot (rods : List RodRecord) (i : Fin 32) : Nat :=
  (rods.filter fun r => decide (r.lot = i)).length

/-- How many entries forward to an entry (01 section 1.3). -/
def referrersOf (lots : LotTable) (i : Fin 32) : Nat :=
  ((List.finRange 32).filter fun j => decide (lots[j].bind (·.forward) = some i)).length

/-- The lot table: counts that count (R9), forwards that name other entries that are not FREE (R9,
R14), at most one OPEN lot and no number twice (R7), no entry left that R10 would free, and formats
that are defined (R13, R68). -/
structure LotInv (s : State) : Prop where
  rodCount : ∀ (i : Fin 32) (l : Lot), s.registry.lots[i] = some l → l.rodCount = rodsOfLot s.registry.rods i
  rodLot : ∀ r ∈ s.registry.rods, ∃ l, s.registry.lots[r.lot] = some l ∧ l.format = r.format
  referrers : ∀ (i : Fin 32) (l : Lot), s.registry.lots[i] = some l →
    l.referrers = referrersOf s.registry.lots i
  forward : ∀ (i : Fin 32) (l : Lot) (f : Fin 32), s.registry.lots[i] = some l → l.forward = some f →
    s.registry.lots[f].isSome = true ∧ f ≠ i
  oneOpen : ∀ i j : Fin 32,
    isOpenLot s.registry.lots[i] = true → isOpenLot s.registry.lots[j] = true → i = j
  numbers : ∀ (i j : Fin 32) (l m : Lot), s.registry.lots[i] = some l → s.registry.lots[j] = some m →
    l.number = m.number → i = j
  noneSpent : ∀ (i : Fin 32) (l : Lot), s.registry.lots[i] = some l → l.isSpent = false
  defined : ∀ (i : Fin 32) (l : Lot), s.registry.lots[i] = some l → (s.format l.format).isSome = true
  runningDefined : ∀ f, s.admission.running = some f → (s.format f).isSome = true

end Sys2Proof.Machine
end

