-- ==== Sys2Proof/Certificates/Slice0/Obligations.lean ====
section
/-! DEFINITION. The statements about the part, for the provers. A next state is written as the state
before with the fields that the rules change: everything not written there is unchanged. -/

open Sys2Proof Sys2Proof.Machine

/-! ## The step and every command -/

/-- A step takes the command at the front of the queue and runs it on the part with the rest. On an
empty queue the part idles: the model's choice, log entry 10. -/
def Obligations.StepRunsTheFrontCommand : Prop :=
  (∀ (s : State) (c : Instr) (rest : List Instr),
      step { s with pending := c :: rest } = exec c { s with pending := rest }) ∧
  (∀ s : State, s.pending = [] → step s = .next s)

/-- Every command completes in every state, leaves the queue, and, unless it is a device reset,
leaves the class of every link (R174). The model's choices in it: a command that is not due, or that
meets a state which no run reaches, completes too (log entries 3 and 13), and a device reset, one
command, leaves the queue (log entries 15 and 23). -/
def Obligations.EveryCommandCompletes : Prop :=
  ∀ (c : Instr) (s : State), ∃ t, exec c s = .next t ∧ t.pending = s.pending ∧
    ((∀ straps, c ≠ .deviceReset straps) → ∀ l : Link, t.links[l].class_ = s.links[l].class_)

/-- A request of a class that the request table does not allow is refused CLASS and changes nothing
else (R175, R180). A request that arrives while the line stays spacing is lost (R185); one that
arrives while the link transmits is lost, and the first of a transmission latches CONTENTION
(R178, R179; log entries 5 and 6). -/
def Obligations.RequestsThatAreNotTaken : Prop :=
  (∀ (c : Instr) (link : Link) (code : Byte) (operands : List Byte) (s : State),
      request c = some (link, code, operands) → s.ready link →
      mayIssue code.toNat s.links[link].class_ = false →
      exec c s = .next (s.answered link (.refused .class_))) ∧
  (∀ (c : Instr) (link : Link) (code : Byte) (operands : List Byte) (s : State),
      request c = some (link, code, operands) →
      (s.links[link].spacing = true → exec c s = .next s) ∧
      (s.links[link].spacing = false → s.links[link].transmitter ≠ .idle →
        s.links[link].contended = true → exec c s = .next s) ∧
      (s.links[link].spacing = false → s.links[link].transmitter ≠ .idle →
        s.links[link].contended = false →
        let latched : State :=
          { s with
            links := s.links.set link
              { s.links[link] with contended := true, lastError := .link .contention } }
        exec c s = .next
          (if s.links[link].class_ = .unbound then latched else latched.route .linkFault)))

/-! ## Device reset -/

/-- DEVICE_RESET gives every block its reset values (R8, R47, R90, R92, R128, R143, R144, R155, R173,
R186); the levels of the input lines and the queue stand (log entries 2 and 15). DEVICE_RESET
binds the links from the strap codes, conflicts in favour of lower-numbered links, and the zone
channels to the links that hold their zones (R174). -/
def Obligations.DeviceResetGivesTheResetValues : Prop :=
  (∀ (straps : Vector (BitVec 4) 12) (s : State), ∃ t, exec (.deviceReset straps) s = .next t ∧
      t.registry.rods = [] ∧ (∀ i : Fin 32, t.registry.lots[i] = none) ∧
      t.admission = { staging := [], boarding := .empty, running := none, mode := .open_,
                      trailing := 0 } ∧
      t.track = { slots := [], motion := .stopped, causes := {}, step := .idle, owed := false,
                  cadenceCount := 0, cadenceCompare := 0, settleInterval := 10, advanceLimit := 50,
                  exitWaitLimit := 600, stepNumber := 0, holdLine := s.track.holdLine,
                  advanceDoneLine := s.track.advanceDoneLine } ∧
      t.track.advanceLine = false ∧ t.track.lineStop = false ∧
      (∀ z : Zone, t.zones.channels[z] =
        { base := 1, limit := 0, state := .off, governing := none, report := none,
          reportClass := .ok, staleness := 0, changed := false,
          boundLink := t.zones.channels[z].boundLink }) ∧
      t.zones.stalenessLimit = 6 ∧
      t.exposure = { interval := 0, counter := 0, tick := 0 } ∧ t.exitQueue = [] ∧
      t.authority.claims = { changeover := none, purge := none, reconfigure := none } ∧
      t.authority.drain = false ∧ t.authority.lock = false ∧
      (∀ i : Fin 16, t.authority.formats[i] = none) ∧
      t.router.routes = #v[.note, .horn, .note, .horn, .note, .nowhere, .horn, .note, .note, .note,
        .nowhere, .note] ∧
      t.router.horn = false ∧ (∀ (l : Link) (c : EventClass), t.router.notes[l][c.index] = false) ∧
      (∀ z : Zone,
        t.router.captures[z] = { record := none, minorSeen := false, majorSeen := false }) ∧
      (∀ l : Link, t.links[l] =
        { class_ := t.links[l].class_, receiver := .hunt, transmitter := .idle, contended := false,
          spacing := false, cursor := none, quiet := false, lastError := t.links[l].lastError,
          sent := [] }) ∧
      t.pending = s.pending) ∧
  (∀ (straps : Vector (BitVec 4) 12) (s t : State), exec (.deviceReset straps) s = .next t →
      (∀ l : Link,
        let lower (code : BitVec 4) : Nat :=
          ((List.finRange 12).filter fun o => decide (o < l ∧ straps[o] = code)).length
        let bound (c : StationClass) : Prop :=
          t.links[l].class_ = c ∧ t.links[l].lastError = .clear
        let conflict : Prop := t.links[l].class_ = .unbound ∧ t.links[l].lastError = .bindConflict
        (straps[l] = 0x1 → if lower 0x1 < 2 then bound .supervisor else conflict) ∧
        (straps[l] = 0x2 → if lower 0x2 = 0 then bound .spreader else conflict) ∧
        (straps[l] = 0x3 → if lower 0x3 = 0 then bound .stripper else conflict) ∧
        (∀ n : Zone, straps[l].toNat = 8 + n.val →
          if lower straps[l] = 0 then bound (.zone n) else conflict) ∧
        (straps[l] = 0x0 ∨ (4 ≤ straps[l].toNat ∧ straps[l].toNat ≤ 7) → bound .unbound)) ∧
      (∀ (z : Zone) (l : Link),
        t.zones.channels[z].boundLink = some l ↔ t.links[l].class_ = .zone z))

/-- The state after device reset has every invariant of the part. -/
def Obligations.ResetHasEveryInvariant : Prop :=
  MotionInv State.reset ∧ ClaimInv State.reset ∧ ZoneInv State.reset ∧ RodInv State.reset ∧
    PlaceInv State.reset ∧ LotInv State.reset

/-! ## Invariants that every step keeps -/

/-- Motion state, step, causes, lock and counter stay related as R50 gives. -/
def Obligations.StepKeepsMotion : Prop :=
  ∀ s t : State, MotionInv s → step s = .next t → MotionInv t

/-- Claims, drain and admission mode stay related as R144, R150 and R152 give. -/
def Obligations.StepKeepsClaims : Prop :=
  ∀ s t : State, MotionInv s → ClaimInv s → step s = .next t → ClaimInv t

/-- The zone channels stay as R93, R95, R96 and R99 relate their fields. -/
def Obligations.StepKeepsZones : Prop :=
  ∀ s t : State, ZoneInv s → step s = .next t → ZoneInv t

/-- The rod table keeps one record for an ID, the grade of the marks and the saturating counts; and
while a rod's record exists, its dose and grade never fall and no mark leaves it (R1, R5). -/
def Obligations.StepKeepsRods : Prop :=
  ∀ s t : State, RodInv s → step s = .next t →
    RodInv t ∧
    ∀ (id : Nat) (r r' : RodRecord), s.rod id = some r → t.rod id = some r' →
      r.dose ≤ r'.dose ∧ r.grade.level ≤ r'.grade.level ∧
        ∀ m : Mark, r.marks.has m = true → r'.marks.has m = true

/-- Every rod stays in exactly the collection that its place names, with the capacities of staging
and exit queue (R3, R21, R67, R129). -/
def Obligations.StepKeepsPlaces : Prop :=
  ∀ s t : State, MotionInv s → PlaceInv s → step s = .next t → PlaceInv t

/-- The lot table keeps its counts, its forwards, one OPEN lot and its numbers (R7, R9, R10). -/
def Obligations.StepKeepsLots : Prop :=
  ∀ s t : State, RodInv s → LotInv s → step s = .next t → LotInv t

/-- While the motion state is not STOPPED, the configuration that the lock covers stands: no step
changes a track length, a window, an interval or a format but for its setpoints (R50, R156, R161),
unless it is a device reset. -/
def Obligations.MovingLineKeepsItsConfiguration : Prop :=
  ∀ (s t : State) (c : Instr), MotionInv s → s.track.motion ≠ .stopped →
    (∀ straps, c ≠ .deviceReset straps) → exec c s = .next t →
    t.track.length = s.track.length ∧
    t.track.settleInterval = s.track.settleInterval ∧
    t.track.advanceLimit = s.track.advanceLimit ∧
    t.track.exitWaitLimit = s.track.exitWaitLimit ∧
    t.exposure.interval = s.exposure.interval ∧
    t.zones.stalenessLimit = s.zones.stalenessLimit ∧
    (∀ z : Zone, t.zones.channels[z].base = s.zones.channels[z].base ∧
      t.zones.channels[z].limit = s.zones.channels[z].limit) ∧
    (∀ i : Fin 16, t.authority.formats[i].isSome = s.authority.formats[i].isSome) ∧
    (∀ (i : Fin 16) (f g : FormatEntry), s.authority.formats[i] = some f →
      t.authority.formats[i] = some g →
      g.dryingClass = f.dryingClass ∧ g.leadGap = f.leadGap ∧ g.doseMinimum = f.doseMinimum ∧
      g.doseMaximum = f.doseMaximum ∧ g.tolerance = f.tolerance ∧
      ∀ z : Zone,
        g.schedules[z].temperatureTolerance = f.schedules[z].temperatureTolerance ∧
        g.schedules[z].temperatureLimit = f.schedules[z].temperatureLimit ∧
        g.schedules[z].humidityTolerance = f.schedules[z].humidityTolerance ∧
        g.schedules[z].humidityLimit = f.schedules[z].humidityLimit)

/-! ## Frames and records -/

/-- The command frame of every request, received whole, is read as that request (R176, R177, R180). -/
def Obligations.CommandFrameIsReadBack : Prop :=
  ∀ (c : Instr) (link : Link) (code : Byte) (operands frame : List Byte),
    request c = some (link, code, operands) → commandFrame c = some frame →
    readFrame link frame = some (.ok c)

/-- Every record has the length that the record layouts give, and its fields in their order, with the
codes of its enumerations and sets and the values of its absent fields: MOTION, TRACK, ZONE, FORMAT,
STAGING, EXIT (which is also what TAKE answers), ROD, LOT, CAPTURE and CLAIMS (R20, R23, R49, R89,
R113, R130, R162, R173, R184). -/
def Obligations.RecordsHaveTheirLengths : Prop :=
  let one (n : Nat) : List Byte := [BitVec.ofNat 8 n]
  let zeros (n : Nat) : List Byte := List.replicate n 0
  let flag (b : Bool) : List Byte := [if b then 1 else 0]
  let bit (b : Bool) (weight : Nat) : Nat := if b then weight else 0
  let index {n : Nat} (i : Option (Fin n)) : List Byte :=
    match i with
    | none => [0xFF]
    | some j => [BitVec.ofNat 8 j.val]
  let marks (m : Marks) : List Byte :=
    one (bit m.minorExposure 1 + bit m.majorExposure 2 + bit m.unmonitored 4 +
      bit m.offSchedule 8 + bit m.lateShift 16 + bit m.lotHeld 32 + bit m.chainFault 64)
  let grade (g : Grade) : List Byte :=
    match g with
    | .clean => [0]
    | .noted => [1]
    | .suspect => [2]
    | .barred => [3]
  let disposition (d : Disposition) : List Byte :=
    match d with
    | .cut => [0]
    | .cutNoted => [1]
    | .regrindUnder => [2]
    | .regrindOver => [3]
    | .quarantine => [4]
  let reportClass (c : ReportClass) : List Byte :=
    match c with
    | .ok => [0]
    | .minor => [1]
    | .major => [2]
  let boarding (b : Boarding) : List Byte × List Byte :=
    match b with
    | .empty => (one 0, zeros 2)
    | .gap => (one 1, zeros 2)
    | .rod id => (one 2, twoBytes id)
  let pending (m : AdmissionMode) : Nat :=
    match m with
    | .changeover p _ => p
    | .open_ => 0
    | .closed => 0
  (∀ (s : State) (space : Space) (index : Nat), s.holdsRecord space index = true →
    (s.recordBytes space index).length =
      match space with
      | .ident => 11
      | .motion => 24
      | .track => 10
      | .zone => 26
      | .format => 67
      | .staging => if index = 0 then 9 else 10
      | .exit => 17
      | .rod => 26
      | .lot => 11
      | .capture => 19
      | .claims => 3) ∧
  (∀ s : State,
    let t := s.track
    s.recordBytes .motion 0 =
      one (match t.motion with
        | .stopped => 0
        | .running => 1
        | .holding => 2
        | .held => 3) ++
      one (bit t.causes.line 1 + bit t.causes.command 2 + bit t.causes.motion 4 +
        bit t.causes.exit 8 + bit t.causes.event 16) ++
      one (match t.step with
        | .idle => 0
        | .exitWait _ => 1
        | .advancing _ => 2
        | .settling _ => 3
        | .suspended => 4) ++
      flag t.owed ++ twoBytes t.cadenceCount ++ twoBytes t.cadenceCompare ++
      fourBytes t.stepNumber.toNat ++ twoBytes t.slots.length ++ one t.settleInterval ++
      one t.advanceLimit ++ twoBytes t.exitWaitLimit ++
      one ((match t.step with
          | .advancing _ => 1
          | .idle => 0
          | .exitWait _ => 0
          | .settling _ => 0
          | .suspended => 0) + bit t.advanceDoneLine 2 + bit t.holdLine 4 +
        (match t.motion with
          | .holding => 8
          | .held => 8
          | .stopped => 0
          | .running => 0)) ++
      (boarding s.admission.boarding).1 ++ (boarding s.admission.boarding).2 ++
      one (s.admission.running.getD 0) ++ one (pending s.admission.mode)) ∧
  (∀ (s : State) (p : Nat),
    (∀ id r, s.track.slots[p]? = some (some id) → s.rod id = some r →
      s.recordBytes .track p =
        twoBytes p ++ twoBytes id ++ one r.format ++ grade r.grade ++
          fourBytes s.track.stepNumber.toNat) ∧
    (s.track.slots[p]? = some none →
      s.recordBytes .track p =
        twoBytes p ++ zeros 4 ++ fourBytes s.track.stepNumber.toNat)) ∧
  (∀ (s : State) (z : Zone),
    let c := s.zones.channels[z]
    s.recordBytes .zone z.val =
      one z.val ++ twoBytes c.base ++ twoBytes c.limit ++
      one (match c.state with
        | .off => 0
        | .awaiting => 1
        | .reporting => 2
        | .stale => 3) ++
      one (c.governing.getD 0) ++
      (match c.report with
        | none => zeros 6
        | some r => one 1 ++ one r.format ++ twoBytes r.temperature ++ one r.humidity ++
            one r.doseRate) ++
      reportClass c.reportClass ++ one c.staleness ++ flag c.changed ++ index c.boundLink ++
      one s.zones.stalenessLimit ++ fourBytes s.exposure.tick.toNat ++
      twoBytes s.exposure.interval ++ twoBytes s.exposure.counter) ∧
  (∀ (s : State) (i : Fin 16),
    (s.authority.formats[i] = none →
      s.recordBytes .format (i.val + 1) = one (i.val + 1) ++ zeros 66) ∧
    (∀ f, s.authority.formats[i] = some f →
      s.recordBytes .format (i.val + 1) =
        one (i.val + 1) ++ one 1 ++ one f.dryingClass ++ one f.leadGap ++
        threeBytes f.doseMinimum ++ threeBytes f.doseMaximum ++ one f.tolerance ++
        (List.finRange 8).flatMap fun z =>
          let y := f.schedules[z]
          twoBytes y.temperature ++ one y.temperatureTolerance ++ one y.temperatureLimit ++
            one y.humidity ++ one y.humidityTolerance ++ one y.humidityLimit)) ∧
  (∀ s : State,
    s.recordBytes .staging 0 =
      one (match s.admission.mode with
        | .open_ => 0
        | .changeover _ _ => 1
        | .closed => 2) ++
      one (s.admission.running.getD 0) ++ one (pending s.admission.mode) ++
      one (match s.admission.mode with
        | .changeover _ g => g
        | .open_ => 0
        | .closed => 0) ++
      one s.admission.trailing ++ (boarding s.admission.boarding).1 ++
      (boarding s.admission.boarding).2 ++ one s.admission.staging.length) ∧
  (∀ (s : State) (id : Nat) (r : RodRecord) (l : Lot), s.rod id = some r →
    s.registry.lots[r.lot] = some l →
    (∀ k : Nat, s.admission.staging[k]? = some id →
      s.recordBytes .staging (k + 1) =
        twoBytes id ++ threeBytes l.number ++ one r.format ++ fourBytes r.hangStep.toNat) ∧
    (∀ b e d, r.place = .exited b e d →
      s.exitRecord id =
        twoBytes id ++ threeBytes l.number ++ one r.format ++ threeBytes r.dose ++
          one r.offSchedule ++ grade r.grade ++ marks r.marks ++ disposition d ++
          fourBytes e.toNat ∧
      ∀ k : Nat, s.exitQueue[k]? = some id → s.recordBytes .exit k = s.exitRecord id)) ∧
  (∀ (s : State) (id : Nat),
    (s.rod id = none → s.recordBytes .rod id = zeros 26) ∧
    (∀ r, s.rod id = some r →
      let place : List Byte × List Byte × List Byte × List Byte × List Byte :=
        match r.place with
        | .staged => (one 0, zeros 2, zeros 4, zeros 1, zeros 4)
        | .boarding => (one 1, zeros 2, zeros 4, zeros 1, zeros 4)
        | .onTrack p b => (one 2, twoBytes p, fourBytes b.toNat, zeros 1, zeros 4)
        | .exited b e d => (one 3, zeros 2, fourBytes b.toNat, disposition d, fourBytes e.toNat)
      s.recordBytes .rod id =
        twoBytes id ++ one r.lot.val ++ one r.format ++ place.1 ++ place.2.1 ++
          fourBytes r.hangStep.toNat ++ place.2.2.1 ++ threeBytes r.dose ++ one r.offSchedule ++
          grade r.grade ++ marks r.marks ++ place.2.2.2.1 ++ place.2.2.2.2)) ∧
  (∀ (s : State) (i : Fin 32),
    (s.registry.lots[i] = none →
      s.recordBytes .lot i.val = one i.val ++ zeros 8 ++ [0xFF] ++ zeros 1) ∧
    (∀ l, s.registry.lots[i] = some l →
      s.recordBytes .lot i.val =
        one i.val ++
          one (match l.status with
            | .opened => 1
            | .closed => 2) ++
          threeBytes l.number ++ one l.format ++ twoBytes l.rodCount ++ flag l.held ++
          index l.forward ++ one l.referrers)) ∧
  (∀ (s : State) (z : Zone),
    let c := s.router.captures[z]
    let seen : List Byte := one (bit c.minorSeen 1 + bit c.majorSeen 2)
    (c.record = none →
      s.recordBytes .capture z.val = one z.val ++ zeros 1 ++ seen ++ zeros 16) ∧
    (∀ r, c.record = some r →
      s.recordBytes .capture z.val =
        one z.val ++ one 1 ++ seen ++ reportClass r.reportClass ++ one r.governing ++
          twoBytes r.temperature ++ one r.humidity ++ twoBytes r.temperatureSetpoint ++
          one r.humiditySetpoint ++ fourBytes r.tick.toNat ++ fourBytes r.stepNumber.toNat)) ∧
  (∀ s : State,
    s.recordBytes .claims 0 = one 0 ++ index s.authority.claims.changeover ++ zeros 1 ∧
    s.recordBytes .claims 1 =
      one 1 ++ index s.authority.claims.purge ++ flag s.authority.drain ∧
    s.recordBytes .claims 2 =
      one 2 ++ index s.authority.claims.reconfigure ++ flag s.authority.lock)

/-- The IDENT space holds one record, at index 0, and a stream whose cursor stands there sends the
constants of R183 whatever the state, whether it goes on or ends with its trailer (R182). Only the
link's channel changes. -/
def Obligations.IdentRecordIsConstant : Prop :=
  (∀ (s : State) (index : Nat), s.holdsRecord .ident index = true ↔ index = 0) ∧
  (∀ (s : State) (link : Link) (j : StreamJob),
      s.links[link].transmitter = .streaming j →
      s.links[link].cursor = some { space := .ident, index := 0 } →
      ∃ c : LinkChannel,
        exec (.streamRecord link) s = .next { s with links := s.links.set link c } ∧
        c.sent.head? =
          some (.record .ident 0 [0x2A, 0x06, 0x01, 12, 0x04, 0x00, 8, 16, 32, 4, 8]) ∧
        c.class_ = s.links[link].class_ ∧ c.receiver = s.links[link].receiver ∧
        c.quiet = s.links[link].quiet ∧ c.lastError = s.links[link].lastError)

/-! ## Lots -/

/-- OPEN_LOT refuses by the checks of R11 in order; accepted, it closes the OPEN lot, freeing it by
R10, makes the entry that was the lowest FREE one OPEN, and answers its index. CLOSE_LOT is
refused STATE where no lot is OPEN; otherwise the OPEN lot becomes CLOSED and is freed if R10
applies (R12). -/
def Obligations.OpenAndCloseLot : Prop :=
  (∀ (s : State) (link : Link) (number : BitVec 24) (format : Byte), s.readyAs link .spreader →
      let lots := s.registry.lots
      let reason := firstReason
        [(decide (number.toNat = 0 ∨ format.toNat = 0 ∨ 16 < format.toNat), .range),
         ((s.format format.toNat).isNone, .notFound),
         (decide (¬ namesNoLot lots number.toNat), .duplicate),
         (decide (∀ i : Fin 32, lots[i].isSome = true), .full)]
      (∀ r, reason = some r →
        exec (.openLot link number format) s = .next (s.answered link (.refused r))) ∧
      (reason = none → ∀ free : Fin 32, lots[free] = none →
        (∀ j : Fin 32, j < free → lots[j].isSome = true) →
        let closed :=
          match openLotIndex lots with
          | none => lots
          | some i =>
            freeIfSpent (lots.set i (lots[i].map fun l : Lot => { l with status := .closed })) i
        exec (.openLot link number format) s = .next
          ((s.withLots (closed.set free (some
            { status := .opened, number := number.toNat, format := format.toNat, rodCount := 0,
              held := false, forward := none, referrers := 0 }))).answered link .data
            [BitVec.ofNat 8 free.val]))) ∧
  (∀ (s : State) (link : Link), s.readyAs link .spreader →
      ((∀ i : Fin 32, isOpenLot s.registry.lots[i] = false) →
        exec (.closeLot link) s = .next (s.answered link (.refused .state))) ∧
      (∀ (i : Fin 32) (l : Lot), s.registry.lots[i] = some l → l.status = .opened →
        (∀ j : Fin 32, isOpenLot s.registry.lots[j] = true → j = i) →
        exec (.closeLot link) s = .next
          ((s.withLots (freeIfSpent (s.registry.lots.set i (some { l with status := .closed })) i)
            ).answered link .accepted)))

/-- HOLD_LOT and RELEASE_LOT refuse RANGE and NOT_FOUND, and otherwise write the held flag of the lot
named and nothing else (R16). -/
def Obligations.HoldAndReleaseLotWriteTheHeldFlag : Prop :=
  ∀ (s : State) (link : Link) (number : BitVec 24), s.readyAs link .supervisor →
    let reason := firstReason
      [(decide (number.toNat = 0), .range),
       (decide (namesNoLot s.registry.lots number.toNat), .notFound)]
    (∀ r, reason = some r →
      exec (.holdLot link number) s = .next (s.answered link (.refused r)) ∧
      exec (.releaseLot link number) s = .next (s.answered link (.refused r))) ∧
    (reason = none → ∀ (i : Fin 32) (l : Lot), s.registry.lots[i] = some l →
      namesLot s.registry.lots number.toNat i →
      exec (.holdLot link number) s = .next
        ((s.withLots (s.registry.lots.set i (some { l with held := true }))).answered
          link .accepted) ∧
      exec (.releaseLot link number) s = .next
        ((s.withLots (s.registry.lots.set i (some { l with held := false }))).answered
          link .accepted))

/-- FOLD_LOT refuses by the checks of R14 in order; accepted, lot A forwards to lot B, whose referrer
count rises by one. UNFOLD_LOT refuses RANGE, NOT_FOUND and STATE; otherwise lot A loses its
forward, the referrer count of the entry it named falls by one, and that entry is freed, with its
cascade, if R10 applies (R15). -/
def Obligations.FoldAndUnfoldLot : Prop :=
  (∀ (s : State) (link : Link) (numberA numberB : BitVec 24), s.readyAs link .supervisor →
      let lots := s.registry.lots
      let reason := firstReason
        [(decide (numberA.toNat = 0 ∨ numberB.toNat = 0), .range),
         (decide (namesNoLot lots numberA.toNat), .notFound),
         (decide (namesNoLot lots numberB.toNat), .notFound),
         (decide (numberA = numberB), .range),
         ((lotIndexOf lots numberA.toNat).any fun a => (lots[a].bind (·.forward)).isSome, .state)]
      (∀ r, reason = some r →
        exec (.foldLot link numberA numberB) s = .next (s.answered link (.refused r))) ∧
      (reason = none → ∀ (a b : Fin 32) (la lb : Lot), lots[a] = some la → lots[b] = some lb →
        namesLot lots numberA.toNat a → namesLot lots numberB.toNat b →
        exec (.foldLot link numberA numberB) s = .next
          ((s.withLots ((lots.set a (some { la with forward := some b })).set b
            (some { lb with referrers := lb.referrers + 1 }))).answered link .accepted))) ∧
  (∀ (s : State) (link : Link) (number : BitVec 24), s.readyAs link .supervisor →
      let lots := s.registry.lots
      let reason := firstReason
        [(decide (number.toNat = 0), .range),
         (decide (namesNoLot lots number.toNat), .notFound),
         ((lotIndexOf lots number.toNat).any fun a => (lots[a].bind (·.forward)).isNone, .state)]
      (∀ r, reason = some r →
        exec (.unfoldLot link number) s = .next (s.answered link (.refused r))) ∧
      (reason = none → ∀ (a b : Fin 32) (la lb : Lot), lots[a] = some la →
        namesLot lots number.toNat a → la.forward = some b → b ≠ a → lots[b] = some lb →
        exec (.unfoldLot link number) s = .next
          ((s.withLots (freeIfSpent ((lots.set a (some { la with forward := none })).set b
            (some { lb with referrers := lb.referrers - 1 })) b)).answered link .accepted)))

/-- The freeing cascade: an entry that is CLOSED with no rods and no referrers becomes FREE, its
forward's referrer count falls by one, and the same rule runs from there; any other entry ends the
cascade (R10). -/
def Obligations.FreeingCascadeFollowsTheForwards : Prop :=
  ∀ (lots : LotTable) (i : Fin 32),
    (lots[i] = none → freeIfSpent lots i = lots) ∧
    (∀ l, lots[i] = some l →
      ¬ (l.status = .closed ∧ l.rodCount = 0 ∧ l.referrers = 0) → freeIfSpent lots i = lots) ∧
    (∀ l, lots[i] = some l → l.status = .closed → l.rodCount = 0 → l.referrers = 0 →
      (l.forward = none → freeIfSpent lots i = lots.set i none) ∧
      (∀ (f : Fin 32) (m : Lot), l.forward = some f → f ≠ i → lots[f] = some m →
        freeIfSpent lots i =
          freeIfSpent ((lots.set i none).set f (some { m with referrers := m.referrers - 1 })) f))

/-- Lot chain resolution gives LOT_HELD exactly where one of at most five visits meets a held entry,
otherwise CHAIN_FAULT exactly where the fifth entry visited still has a forward, otherwise clear
(R17). -/
def Obligations.ChainResolutionVisitsAtMostFive : Prop :=
  ∀ (lots : LotTable) (i : Fin 32),
    let met (k : Nat) : Bool :=
      (chainVisit lots i k).any fun j => lots[j].any (·.held)
    (resolveChain lots i = .lotHeld ↔ ∃ k, k < 5 ∧ met k = true) ∧
    (resolveChain lots i = .chainFault ↔
      (∀ k, k < 5 → met k = false) ∧ (chainVisit lots i 5).isSome = true) ∧
    (resolveChain lots i = .clear ↔
      (∀ k, k < 5 → met k = false) ∧ chainVisit lots i 5 = none)

/-! ## Admission -/

/-- HANG refuses by the checks of R69 in order; accepted, it creates the STAGED, CLEAN record of R1
at the OPEN lot, whose rod count rises, puts the rod at the tail of the staging queue, and where
there was no running format makes the lot's format the running one and recomputes the zones (R70,
R98). -/
def Obligations.HangStagesTheRod : Prop :=
  ∀ (s : State) (link : Link) (rod : BitVec 16), s.readyAs link .spreader →
    let openFormat : Option Nat :=
      (openLotIndex s.registry.lots).bind fun i => s.registry.lots[i].map (·.format)
    let reason := firstReason
      [(decide (rod.toNat = 0), .range),
       (decide (4 ≤ s.admission.staging.length +
          (match s.admission.boarding with | .rod _ => 1 | .gap => 0 | .empty => 0)), .full),
       ((s.rod rod.toNat).isSome, .duplicate),
       (openFormat.isNone, .noLot),
       (s.admission.running.isSome && decide (openFormat ≠ s.admission.running) &&
          (match s.admission.mode with
            | .changeover p _ => decide (openFormat ≠ some p)
            | .open_ => true
            | .closed => true), .wrongFormat)]
    (∀ r, reason = some r → exec (.hang link rod) s = .next (s.answered link (.refused r))) ∧
    (reason = none → ∀ (i : Fin 32) (l : Lot), openLotIndex s.registry.lots = some i →
      s.registry.lots[i] = some l →
      let hung : State :=
        { s with
          registry :=
            { rods := insertRod
                { id := rod.toNat, lot := i, format := l.format, place := .staged,
                  hangStep := s.track.stepNumber, dose := 0, offSchedule := 0, marks := {},
                  grade := .clean } s.registry.rods
              lots := s.registry.lots.set i (some { l with rodCount := l.rodCount + 1 }) }
          admission := { s.admission with
            staging := s.admission.staging ++ [rod.toNat]
            running := if s.admission.running = none then some l.format
              else s.admission.running } }
      exec (.hang link rod) s = .next
        ((if s.admission.running = none then hung.recomputeZones else hung).answered
          link .accepted))

/-- WITHDRAW answers by the place of the rod named; a STAGED rod leaves the queue, the others keeping
their order, and its record is deleted: its lot's rod count falls and R10 may free the lot (R4,
R71). -/
def Obligations.WithdrawRemovesAStagedRod : Prop :=
  ∀ (s : State) (link : Link) (rod : BitVec 16), s.readyAs link .spreader →
    (rod.toNat = 0 → exec (.withdraw link rod) s = .next (s.answered link (.refused .range))) ∧
    (rod.toNat ≠ 0 → s.rod rod.toNat = none →
      exec (.withdraw link rod) s = .next (s.answered link (.refused .notFound))) ∧
    (∀ r, rod.toNat ≠ 0 → s.rod rod.toNat = some r →
      (r.place = .boarding →
        exec (.withdraw link rod) s = .next (s.answered link (.refused .tooLate))) ∧
      (∀ p b, r.place = .onTrack p b →
        exec (.withdraw link rod) s = .next (s.answered link (.refused .state))) ∧
      (∀ b e d, r.place = .exited b e d →
        exec (.withdraw link rod) s = .next (s.answered link (.refused .state))) ∧
      (∀ l, r.place = .staged → s.registry.lots[r.lot] = some l →
        exec (.withdraw link rod) s = .next
          ({ s with
              registry :=
                { rods := s.registry.rods.filter fun x => x.id != rod.toNat
                  lots := freeIfSpent (s.registry.lots.set r.lot
                    (some { l with rodCount := l.rodCount - 1 })) r.lot }
              admission := { s.admission with
                staging := s.admission.staging.filter fun id => id != rod.toNat } }.answered
            link .accepted)))

/-- CHANGEOVER refuses by the checks of R78 in order; accepted, the mode becomes CHANGEOVER with the
pending format and the required gap of R79. CANCEL_CHANGEOVER is refused CLAIM and then STATE;
accepted, the mode becomes OPEN and everything else, the claim among it, stands (R83). -/
def Obligations.ChangeoverAndItsCancellation : Prop :=
  (∀ (s : State) (link : Link) (format : Byte), s.ready link →
      s.links[link].class_ = .spreader ∨ s.links[link].class_ = .supervisor →
      let reason := firstReason
        [(decide (s.authority.claims.changeover ≠ some link), .claim),
         (decide (format.toNat = 0 ∨ 16 < format.toNat), .range),
         (decide (s.admission.mode ≠ .open_), .state),
         (s.admission.running.isNone, .state),
         ((s.format format.toNat).isNone, .notFound),
         (decide (s.admission.running = some format.toNat), .range)]
      (∀ r, reason = some r →
        exec (.changeover link format) s = .next (s.answered link (.refused r))) ∧
      (reason = none → ∀ (running : Nat) (pf rf : FormatEntry), s.admission.running = some running →
        s.format format.toNat = some pf → s.format running = some rf →
        exec (.changeover link format) s = .next
          ({ s with admission := { s.admission with
              mode := .changeover format.toNat
                (if pf.dryingClass = rf.dryingClass then 0 else pf.leadGap) } }.answered
            link .accepted))) ∧
  (∀ (s : State) (link : Link), s.ready link →
      s.links[link].class_ = .spreader ∨ s.links[link].class_ = .supervisor →
      (s.authority.claims.changeover ≠ some link →
        exec (.cancelChangeover link) s = .next (s.answered link (.refused .claim))) ∧
      (s.authority.claims.changeover = some link →
        (s.admission.mode = .open_ ∨ s.admission.mode = .closed →
          exec (.cancelChangeover link) s = .next (s.answered link (.refused .state))) ∧
        (∀ p g, s.admission.mode = .changeover p g →
          exec (.cancelChangeover link) s = .next
            ({ s with admission := { s.admission with mode := .open_ } }.answered link .accepted))))

/-- The boarding choice by admission mode and staging head, with the gaps that are unintended (R73,
R74). A step begins in EXIT_WAIT exactly where the rod at L - 1 meets a full exit queue, and
otherwise in ADVANCING, where the boarding choice is bound and the advance limit timer started
(R30, R31); an unintended gap raises ADMISSION_GAP (R74). -/
def Obligations.BoardingChoiceAndStepBeginning : Prop :=
  (∀ s : State,
      (s.admission.staging = [] →
        s.boardingChoice = .gap (decide (s.admission.mode ≠ .closed))) ∧
      (∀ (id : Nat) (rest : List Nat) (r : RodRecord), s.admission.staging = id :: rest →
        s.rod id = some r →
        (s.admission.mode = .open_ → s.admission.running = some r.format →
          s.boardingChoice = .head id) ∧
        (s.admission.mode = .open_ → s.admission.running ≠ some r.format →
          s.boardingChoice = .gap true) ∧
        (∀ p g, s.admission.mode = .changeover p g →
          (s.admission.running = some r.format → s.boardingChoice = .head id) ∧
          (s.admission.running ≠ some r.format → r.format = p → g ≤ s.admission.trailing →
            s.boardingChoice = .head id) ∧
          (s.admission.running ≠ some r.format → r.format = p → s.admission.trailing < g →
            s.boardingChoice = .gap false) ∧
          (s.admission.running ≠ some r.format → r.format ≠ p → s.boardingChoice = .gap true)) ∧
        (s.admission.mode = .closed → s.boardingChoice = .gap false))) ∧
  (∀ s : State,
      (s.track.lastSlot.isSome = true ∧ 8 ≤ s.exitQueue.length →
        s.beginStep =
          ({ s with track := { s.track with step := .exitWait s.track.exitWaitLimit } }, [])) ∧
      (s.track.lastSlot = none ∨ s.exitQueue.length < 8 → s.beginStep = s.enterAdvancing) ∧
      (∀ id, s.boardingChoice = .head id →
        s.enterAdvancing =
          ({ s with
              admission := { s.admission with
                staging := s.admission.staging.tail, boarding := .rod id }
              registry := { s.registry with
                rods := s.registry.rods.map fun r : RodRecord =>
                  if r.id = id then { r with place := .boarding } else r }
              track := { s.track with step := .advancing s.track.advanceLimit } }, [])) ∧
      (∀ unintended, s.boardingChoice = .gap unintended →
        s.enterAdvancing =
          ({ s with
              admission := { s.admission with boarding := .gap }
              track := { s.track with step := .advancing s.track.advanceLimit } },
            if unintended then [.admissionGap] else [])))

/-! ## Motion -/

/-- START is refused STATE outside STOPPED and NOT_READY with the lock clear or L at 0; accepted, the
line is RUNNING with the cadence counter at 0, or HELD with LINE where the HOLD line is asserted,
and a CLOSED admission is OPEN (R56, R57). -/
def Obligations.StartRunsAStoppedLine : Prop :=
  ∀ (s : State) (link : Link), s.readyAs link .supervisor →
    let reason := firstReason
      [(decide (s.track.motion ≠ .stopped), .state),
       (decide (s.authority.lock = false ∨ s.track.slots = []), .notReady)]
    let mode := if s.admission.mode = .closed then .open_ else s.admission.mode
    (∀ r, reason = some r → exec (.start link) s = .next (s.answered link (.refused r))) ∧
    (reason = none → s.track.holdLine = false →
      exec (.start link) s = .next
        ({ s with
            track := { s.track with motion := .running, cadenceCount := 0 }
            admission := { s.admission with mode := mode } }.answered link .accepted)) ∧
    (reason = none → s.track.holdLine = true → s.track.step = .idle → s.track.causes = {} →
      exec (.start link) s = .next
        ({ s with
            track := { s.track with
              motion := .held, causes := { line := true }, owed := false, cadenceCount := 0 }
            admission := { s.admission with mode := mode } }.answered link .accepted))

/-- HOLD is refused STATE in STOPPED; elsewhere it adds COMMAND: in RUNNING the line is HELD with the
step in SETTLING or EXIT_WAIT dropped, or HOLDING with a step in ADVANCING going on; in HOLDING and
HELD only the set changes, and with COMMAND in the set nothing does (R36, R51, R53). -/
def Obligations.HoldAddsTheCommandCause : Prop :=
  ∀ (s : State) (link : Link), s.readyAs link .supervisor →
    let causes := { s.track.causes with command := true }
    let held : State :=
      { s with track := { s.track with
          motion := .held, causes := causes, step := .idle, owed := false, cadenceCount := 0 } }
    (s.track.motion = .stopped →
      exec (.hold link) s = .next (s.answered link (.refused .state))) ∧
    (s.track.motion ≠ .stopped → s.track.causes.command = true →
      exec (.hold link) s = .next (s.answered link .accepted)) ∧
    (s.track.motion = .running → s.track.causes.command = false →
      (s.track.step = .idle → exec (.hold link) s = .next (held.answered link .accepted)) ∧
      (∀ n, s.track.step = .settling n ∨ s.track.step = .exitWait n →
        exec (.hold link) s = .next (held.answered link .accepted)) ∧
      (∀ n, s.track.step = .advancing n →
        exec (.hold link) s = .next
          ({ s with track := { s.track with
              motion := .holding, causes := causes, owed := false } }.answered link .accepted))) ∧
    (s.track.motion = .holding ∨ s.track.motion = .held → s.track.causes.command = false →
      exec (.hold link) s = .next
        ({ s with track := { s.track with causes := causes } }.answered link .accepted))

/-- RESUME is refused STATE in RUNNING, in STOPPED, with LINE in the set, and in HELD with the step
SUSPENDED; accepted, the causes are cleared and the line is RUNNING, with the cadence counter from 0
after HELD and going on after HOLDING (R58, R59). -/
def Obligations.ResumeReturnsToRunning : Prop :=
  ∀ (s : State) (link : Link), s.readyAs link .supervisor →
    (s.track.motion = .running ∨ s.track.motion = .stopped ∨ s.track.causes.line = true ∨
        (s.track.motion = .held ∧ s.track.step = .suspended) →
      exec (.resume link) s = .next (s.answered link (.refused .state))) ∧
    (s.track.motion = .held → s.track.step ≠ .suspended → s.track.causes.line = false →
      exec (.resume link) s = .next
        ({ s with track := { s.track with
            motion := .running, causes := {}, cadenceCount := 0 } }.answered link .accepted)) ∧
    (s.track.motion = .holding → s.track.causes.line = false →
      exec (.resume link) s = .next
        ({ s with track := { s.track with motion := .running, causes := {} } }.answered
          link .accepted))

/-- STOP is accepted in RUNNING and HELD with no rod on the track and the step IDLE, whatever the
hold causes, and refused STATE otherwise; it makes the line STOPPED and completes a drain in progress
(R60, R62). -/
def Obligations.StopStopsAnEmptyIdleLine : Prop :=
  ∀ (s : State) (link : Link), s.readyAs link .supervisor →
    let atRest : Prop :=
      (s.track.motion = .running ∨ s.track.motion = .held) ∧
        (∀ x ∈ s.track.slots, x = none) ∧ s.track.step = .idle
    let stopped : State :=
      { s with track := { s.track with
          motion := .stopped, causes := {}, owed := false, cadenceCount := 0 } }
    (¬ atRest → exec (.stop link) s = .next (s.answered link (.refused .state))) ∧
    (atRest → s.authority.drain = false →
      exec (.stop link) s = .next (stopped.answered link .accepted)) ∧
    (atRest → s.authority.drain = true →
      exec (.stop link) s = .next
        ({ stopped with authority := { s.authority with
            drain := false, claims := { s.authority.claims with purge := none } } }.answered
          link .accepted))

/-- SET_CADENCE writes the compare value, and returns the counter to 0 where the value is at or below
the count (R27). SET_ROUTE writes the destination of one class, SILENCE clears the horn request,
and neither changes anything else (R164, R166). -/
def Obligations.SetCadenceSetRouteAndSilence : Prop :=
  (∀ (s : State) (link : Link) (compare : BitVec 16), s.readyAs link .supervisor →
      exec (.setCadence link compare) s = .next
        ({ s with track := { s.track with
            cadenceCompare := compare.toNat
            cadenceCount := if compare.toNat ≤ s.track.cadenceCount then 0
              else s.track.cadenceCount } }.answered link .accepted)) ∧
  (∀ (s : State) (link : Link), s.readyAs link .supervisor →
      (∀ eventClass destination : Byte,
        eventClass.toNat = 0 ∨ 12 < eventClass.toNat ∨ 3 < destination.toNat →
        exec (.setRoute link eventClass destination) s =
          .next (s.answered link (.refused .range))) ∧
      (∀ (eventClass destination : Byte) (i : Fin 12) (d : Destination),
        eventClass.toNat = i.val + 1 →
        destination.toNat =
          (match d with
            | .nowhere => 0
            | .note => 1
            | .horn => 2
            | .stop => 3) →
        exec (.setRoute link eventClass destination) s = .next
          ({ s with router := { s.router with
              routes := s.router.routes.set i d } }.answered link .accepted)) ∧
      exec (.silence link) s = .next
        ({ s with router := { s.router with horn := false } }.answered link .accepted))

/-- ADVANCE DONE in ADVANCING applies the shift (R33): its effects 2 to 7 give the part `u`, with every
record, mark, zone channel, claim and count as `Shifted` writes them; then the step ends by the motion
state: IDLE in STOPPED where the drain ends, HELD and IDLE from HOLDING, SETTLING in RUNNING, IDLE
where settling lasts no time, and where a step is owed that step begins (R35). The events of the exit
rod reach the router after all that (R55, R134): where one is routed to STOP they add EVENT to a step
that settles, which leaves the line HELD and the step IDLE (R55, case 1), and nothing where the drain
has ended in STOPPED (R55, case 2). -/
def Obligations.AdvanceDoneAppliesTheShift : Prop :=
  ∀ (s : State) (n : Nat), RodInv s → PlaceInv s → s.track.advanceDoneLine = false →
    s.track.step = .advancing n → s.track.motion = .running ∨ s.track.motion = .holding →
    ∃ u : State,
      Shifted { s with track := { s.track with advanceDoneLine := true } } u ∧
      let ends (track : TrackControl) : State :=
        State.routeAll { u with track := track } s.exitEvents
      (s.drainEnds = true →
        exec .advanceDone s = .next (ends { u.track with step := .idle }) ∧
        (ends { u.track with step := .idle }).track = { u.track with step := .idle }) ∧
      (s.drainEnds = false → s.track.motion = .holding →
        exec .advanceDone s = .next
          (ends { u.track with motion := .held, step := .idle, owed := false,
                               cadenceCount := 0 })) ∧
      (s.drainEnds = false → s.track.motion = .running → s.track.settleInterval ≠ 0 →
        let settling : TrackControl := { u.track with step := .settling s.track.settleInterval }
        exec .advanceDone s = .next (ends settling) ∧
        (s.track.causes.event = false →
          (∃ c ∈ s.exitEvents, s.router.routes[c.index] = .stop) →
          (ends settling).track =
            { u.track with
              motion := .held, step := .idle, owed := false, cadenceCount := 0
              causes := { s.track.causes with event := true } })) ∧
      (s.drainEnds = false → s.track.motion = .running → s.track.settleInterval = 0 →
        (s.track.owed = false →
          exec .advanceDone s = .next (ends { u.track with step := .idle })) ∧
        (s.track.owed = true →
          let owing : State := { u with track := { u.track with owed := false } }
          exec .advanceDone s = .next
            (owing.beginStep.1.routeAll (s.exitEvents ++ owing.beginStep.2))))

/-- The shift that boards a rod of the pending format completes the changeover: that format runs, the
mode is OPEN and the claim released; a shift that boards anything else leaves running format, mode
and claim. So it is at the shift of a step that ends normally, at a late completion, and at
CONFIRM_STEP (R40, R41, R81, R86). -/
def Obligations.PendingFormatBoardingCompletesTheChangeover : Prop :=
  ∀ (s : State) (link : Link) (n : Nat),
    let completes (t : State) : Prop :=
      (∀ p g id r, s.admission.mode = .changeover p g → s.admission.boarding = .rod id →
        s.rod id = some r → r.format = p →
        t.admission.running = some p ∧ t.admission.mode = .open_ ∧
          t.authority.claims.changeover = none) ∧
      (s.admission.boarding = .gap ∨ (∃ id r, s.admission.boarding = .rod id ∧
          s.rod id = some r ∧ ∀ p g, s.admission.mode = .changeover p g → r.format ≠ p) →
        t.admission.running = s.admission.running ∧ t.admission.mode = s.admission.mode ∧
          t.authority.claims.changeover = s.authority.claims.changeover)
    (s.track.advanceDoneLine = false → s.track.step = .advancing n →
      ∃ t, exec .advanceDone s = .next t ∧ completes t) ∧
    (s.track.advanceDoneLine = false → s.track.step = .suspended →
      ∃ t, exec .advanceDone s = .next t ∧ completes t) ∧
    (s.readyAs link .supervisor → s.track.step = .suspended →
      ∃ t, exec (.confirmStep link) s = .next t ∧ completes t)

/-- A suspended step is completed by a late ADVANCE DONE or by CONFIRM_STEP: the shift, effects 2 to 7,
gives the part `u`; then LATE_SHIFT on every rod on the track and IDLE with no settling. The motion
state stays HELD, with its causes, unless the drain ends and it is STOPPED. The events of the exit rod
are routed after that, and after them, at the late arrival alone, LATE_ADVANCE (R40, R41, R55, R126).
That the answer of CONFIRM_STEP carries the attention of the part after its events is log entry 16. -/
def Obligations.SuspendedStepIsCompleted : Prop :=
  ∀ (s : State) (link : Link), RodInv s → PlaceInv s → s.track.step = .suspended →
    s.track.motion = .held →
    let late (r : RodRecord) : RodRecord :=
      match r.place with
      | .onTrack _ _ => r.addMark .lateShift
      | .staged => r
      | .boarding => r
      | .exited _ _ _ => r
    let completed (u : State) : State :=
      { u with
        registry := { u.registry with rods := u.registry.rods.map late }
        track := { u.track with step := .idle } }
    let rests (t : State) : Prop :=
      t.track.step = .idle ∧
      (s.drainEnds = false → t.track.motion = .held ∧
        t.track.causes.motion = s.track.causes.motion) ∧
      (s.drainEnds = true → t.track.motion = .stopped ∧ t.track.causes = {})
    (s.track.advanceDoneLine = false → ∃ u t : State,
      Shifted { s with track := { s.track with advanceDoneLine := true } } u ∧
      exec .advanceDone s = .next t ∧
      t = (completed u).routeAll (s.exitEvents ++ [.lateAdvance]) ∧ rests t) ∧
    (s.readyAs link .supervisor → ∃ u t : State,
      Shifted s u ∧ exec (.confirmStep link) s = .next (t.answered link .accepted) ∧
      t = (completed u).routeAll s.exitEvents ∧ rests t)

/-- CONFIRM_STEP and ABANDON_STEP are refused STATE outside SUSPENDED (R41, R42). ABANDON_STEP in
SUSPENDED: a bound rod returns to the head of the staging queue as STAGED, a bound gap is dropped,
the step is IDLE, and nothing else changes (R42). -/
def Obligations.AbandonStepReturnsTheBoundRod : Prop :=
  (∀ (s : State) (link : Link), s.readyAs link .supervisor → s.track.step ≠ .suspended →
      exec (.confirmStep link) s = .next (s.answered link (.refused .state)) ∧
      exec (.abandonStep link) s = .next (s.answered link (.refused .state))) ∧
  (∀ (s : State) (link : Link), s.readyAs link .supervisor → s.track.step = .suspended →
      (∀ id, s.admission.boarding = .rod id →
        exec (.abandonStep link) s = .next
          ({ s with
              admission := { s.admission with
                staging := id :: s.admission.staging, boarding := .empty }
              registry := { s.registry with
                rods := s.registry.rods.map fun r : RodRecord =>
                  if r.id = id then { r with place := .staged } else r }
              track := { s.track with step := .idle } }.answered link .accepted)) ∧
      (s.admission.boarding = .gap →
        exec (.abandonStep link) s = .next
          ({ s with
              admission := { s.admission with boarding := .empty }
              track := { s.track with step := .idle } }.answered link .accepted)))

/-! ## Lines and timers -/

/-- ADVANCE DONE arrives only by rising: an asserted level gives nothing, and a rise in IDLE,
EXIT_WAIT or SETTLING is stray and raises STRAY_ADVANCE alone; its fall arms it again (R32). The
HOLD line: a rise adds LINE outside STOPPED, with the effects of a hold cause; a level that stays
asserted gives no edge; a fall removes LINE and leaves the motion state (R51, R52). -/
def Obligations.InputLinesActOnTheirEdges : Prop :=
  (∀ s : State,
      (s.track.advanceDoneLine = true → exec .advanceDone s = .next s) ∧
      (s.track.advanceDoneLine = false → (∀ n, s.track.step ≠ .advancing n) →
        s.track.step ≠ .suspended →
        exec .advanceDone s = .next
          (State.route { s with track := { s.track with advanceDoneLine := true } }
            .strayAdvance)) ∧
      exec .advanceDoneFall s =
        .next { s with track := { s.track with advanceDoneLine := false } }) ∧
  (∀ s : State,
      let risen : TrackControl := { s.track with holdLine := true }
      let causes := { s.track.causes with line := true }
      (s.track.holdLine = true → exec .holdLineRise s = .next s) ∧
      (s.track.holdLine = false → s.track.motion = .stopped →
        exec .holdLineRise s = .next { s with track := risen }) ∧
      (s.track.holdLine = false → s.track.causes.line = false →
        s.track.motion = .holding ∨ s.track.motion = .held →
        exec .holdLineRise s = .next { s with track := { risen with causes := causes } }) ∧
      (s.track.holdLine = false → s.track.causes.line = false → s.track.motion = .running →
        (∀ n, s.track.step = .advancing n →
          exec .holdLineRise s = .next
            { s with track := { risen with
                causes := causes, motion := .holding, owed := false } }) ∧
        ((∀ n, s.track.step ≠ .advancing n) → s.track.step ≠ .suspended →
          exec .holdLineRise s = .next
            { s with track := { risen with
                causes := causes, motion := .held, step := .idle, owed := false,
                cadenceCount := 0 } })) ∧
      exec .holdLineFall s = .next
        { s with track := { s.track with
            holdLine := false, causes := { s.track.causes with line := false } } })

/-- A cadence expiry that is due returns the counter to 0; in RUNNING it begins a step in IDLE, sets
the owed flag elsewhere, and raises CADENCE_OVERRUN where that is set; in HOLDING it does no more
(R26, R28). One that is not due does not occur (log entry 3). -/
def Obligations.CadenceExpiryBeginsOrOwesAStep : Prop :=
  ∀ s : State,
    let due : Prop := (s.track.motion = .running ∨ s.track.motion = .holding) ∧
      s.track.cadenceCompare ≠ 0 ∧ s.track.cadenceCompare ≤ s.track.cadenceCount
    let expired : State := { s with track := { s.track with cadenceCount := 0 } }
    (¬ due → exec .cadenceExpiry s = .next s) ∧
    (due → s.track.motion = .running → s.track.step = .idle →
      exec .cadenceExpiry s = .next (expired.beginStep.1.routeAll expired.beginStep.2)) ∧
    (due → s.track.motion = .running → s.track.step ≠ .idle → s.track.step ≠ .suspended →
      (s.track.owed = false → exec .cadenceExpiry s = .next
        { s with track := { s.track with cadenceCount := 0, owed := true } }) ∧
      (s.track.owed = true →
        exec .cadenceExpiry s = .next (expired.route .cadenceOverrun))) ∧
    (due → s.track.motion = .holding → exec .cadenceExpiry s = .next expired)

/-- The end of settling: IDLE with the owed flag clear; with it set, it clears and the owed step
begins (R35). The advance limit running out suspends the step: MOTION, HELD, owed flag clear,
counter at 0, MOTION_FAULT raised, and nothing else changed (R38). The exit wait limit running out
withdraws the step: EXIT, HELD, IDLE, EXIT_BLOCKED raised, and nothing else changed (R45). An expiry
that is not due leaves the part: the model's choice, log entry 3. -/
def Obligations.StepTimersRunOut : Prop :=
  (∀ s : State,
      let cleared : State := { s with track := { s.track with owed := false } }
      (s.track.step ≠ .settling 0 → exec .settleExpiry s = .next s) ∧
      (s.track.step = .settling 0 →
        (s.track.owed = false → exec .settleExpiry s =
          .next { s with track := { s.track with step := .idle } }) ∧
        (s.track.owed = true → exec .settleExpiry s =
          .next (cleared.beginStep.1.routeAll cleared.beginStep.2)))) ∧
  (∀ s : State,
      (s.track.step ≠ .advancing 0 → exec .advanceLimitExpiry s = .next s) ∧
      (s.track.step = .advancing 0 → exec .advanceLimitExpiry s = .next
        (State.route
          { s with track := { s.track with
              step := .suspended, causes := { s.track.causes with motion := true },
              motion := .held, owed := false, cadenceCount := 0 } } .motionFault)) ∧
      (s.track.step ≠ .exitWait 0 → exec .exitWaitExpiry s = .next s) ∧
      (s.track.step = .exitWait 0 → exec .exitWaitExpiry s = .next
        (State.route
          { s with track := { s.track with
              step := .idle, causes := { s.track.causes with exit := true },
              motion := .held, owed := false, cadenceCount := 0 } } .exitBlocked)))

/-- A base tick completes in every state. It first takes the expiries that the last one left due, in
the order that log entry 4 names: with the timers, the inter-byte limit of every frame under way past
2 base ticks, which ends TRUNCATED. Then it counts: the timer of the sub-state, the cadence counter
in RUNNING and HOLDING, the exposure counter with a non-zero interval, the inter-byte limits (R25,
R26, R114, R177). That a limit counts from the last byte that came as a command is log entry 12. -/
def Obligations.BaseTickCountsEveryTimer : Prop :=
  ∀ s : State, ∃ a b c d e t : State, exec .exposureTick s = .next a ∧
    exec .settleExpiry a = .next b ∧ exec .advanceLimitExpiry b = .next c ∧
    exec .exitWaitExpiry c = .next d ∧ exec .cadenceExpiry d = .next e ∧
    exec .baseTick s = .next t ∧
      let cut (u : State) (l : Link) : State :=
        match u.links[l].receiver with
        | .hunt => u
        | .body gap _ =>
          if 2 < gap then
            State.latched
              { u with links := u.links.set l { u.links[l] with receiver := .hunt } } l .truncated
          else u
      let f : State := (List.finRange 12).foldl cut e
      t = { f with track := t.track, exposure := t.exposure, links := t.links } ∧
      t.track = { f.track with step := t.track.step, cadenceCount := t.track.cadenceCount } ∧
      t.track.cadenceCount =
        (if f.track.motion = .running ∨ f.track.motion = .holding
          then min 65535 (f.track.cadenceCount + 1) else f.track.cadenceCount) ∧
      t.track.step =
        (match f.track.step with
          | .idle => .idle
          | .exitWait n => .exitWait (n - 1)
          | .advancing n => .advancing (n - 1)
          | .settling n => .settling (n - 1)
          | .suspended => .suspended) ∧
      t.exposure = { f.exposure with
        counter := if f.exposure.interval = 0 then f.exposure.counter
          else min 65535 (f.exposure.counter + 1) } ∧
      ∀ l : Link, t.links[l] = { f.links[l] with
        receiver :=
          match f.links[l].receiver with
          | .hunt => .hunt
          | .body gap bytes => .body (gap + 1) bytes }

/-! ## Exposure -/

/-- An exposure tick that is due counts itself, credits and marks the rods by the zones as they stood,
and then advances staleness; after the whole tick ZONE_STALE is routed once for each zone that
becomes STALE, with every effect of its destination, and a tick that makes no zone STALE raises
nothing (R55, R108, R109, R114, R116, R117). One that is not due does not occur (log entry 3). What a
tick does to a rod, by its place and the zone whose window covers it: nothing off the track, at a
transit position, or in a zone OFF or AWAITING; UNMONITORED in a STALE zone; dose, class mark and
off-schedule count in a REPORTING zone (R118 to R123). Adding any mark, here or elsewhere: one the
rod has changes nothing; one it lacks joins the set and raises the grade to what the mark requires,
and nothing else (R5). -/
def Obligations.ExposureTick : Prop :=
  (∀ s : State,
      let due : Prop := s.exposure.interval ≠ 0 ∧ s.exposure.interval ≤ s.exposure.counter
      let counted (z : Zone) : Nat := min 255 (s.zones.channels[z].staleness + 1)
      let grows (z : Zone) : Prop :=
        (s.zones.channels[z].state = .awaiting ∨ s.zones.channels[z].state = .reporting) ∧
          s.zones.stalenessLimit ≤ counted z
      let ticked : State :=
        { s with
          exposure := { s.exposure with counter := 0, tick := s.exposure.tick + 1 }
          registry := { s.registry with rods := s.registry.rods.map s.exposeRod }
          zones := { s.zones with
            channels := Vector.ofFn fun z : Zone =>
              let c := s.zones.channels[z]
              if c.state = .off then c
              else { c with
                staleness := counted z
                state := if grows z then .stale else c.state } } }
      let grown : List Zone := (List.finRange 8).filter fun z => decide (grows z)
      (¬ due → exec .exposureTick s = .next s) ∧
      (due → exec .exposureTick s =
        .next (grown.foldl (fun u _ => u.route .zoneStale) ticked)) ∧
      (due → (∀ z, ¬ grows z) → exec .exposureTick s = .next ticked)) ∧
  (∀ (s : State) (r : RodRecord),
      ((∀ p b, r.place ≠ .onTrack p b) → s.exposeRod r = r) ∧
      (∀ p b, r.place = .onTrack p b →
        ((∀ z : Zone, s.zones.channels[z].covers p = false) → s.exposeRod r = r) ∧
        (∀ z : Zone, s.zones.channels[z].covers p = true →
          (∀ w : Zone, s.zones.channels[w].covers p = true → w = z) →
          (s.zones.channels[z].state = .off ∨ s.zones.channels[z].state = .awaiting →
            s.exposeRod r = r) ∧
          (s.zones.channels[z].state = .stale → s.exposeRod r = r.addMark .unmonitored) ∧
          (∀ report, s.zones.channels[z].state = .reporting →
            s.zones.channels[z].report = some report →
            let mixed : Bool := s.zones.channels[z].governing.any fun f => decide (f ≠ r.format)
            let count := if mixed then min 255 (r.offSchedule + 1) else r.offSchedule
            (s.exposeRod r).dose = min 4194303 (r.dose + report.doseRate) ∧
            (s.exposeRod r).offSchedule = count ∧
            (s.exposeRod r).marks =
              { r.marks with
                minorExposure := r.marks.minorExposure ||
                  decide (s.zones.channels[z].reportClass = .minor)
                majorExposure := r.marks.majorExposure ||
                  decide (s.zones.channels[z].reportClass = .major)
                offSchedule := r.marks.offSchedule ||
                  (mixed && decide ((s.formatFields r.format).tolerance < count)) } ∧
            (s.exposeRod r).place = r.place ∧ (s.exposeRod r).id = r.id ∧
            (s.exposeRod r).lot = r.lot ∧ (s.exposeRod r).format = r.format ∧
            (s.exposeRod r).hangStep = r.hangStep)))) ∧
  (∀ (r : RodRecord) (m : Mark),
      let required : Grade :=
        match m with
        | .minorExposure => .noted
        | .majorExposure => .suspect
        | .unmonitored => .suspect
        | .offSchedule => .suspect
        | .lateShift => .noted
        | .lotHeld => .barred
        | .chainFault => .barred
      (r.marks.has m = true → r.addMark m = r) ∧
      (r.marks.has m = false →
        r.addMark m =
          { r with
            marks := (r.addMark m).marks
            grade := if r.grade.level < required.level then required else r.grade } ∧
        ∀ k : Mark, (r.addMark m).marks.has k = (r.marks.has k || decide (k = m))))

/-! ## Exit -/

/-- The disposition: the first line of the table that applies, by grade and dose, both comparisons
strict (R132). -/
def Obligations.DispositionIsTheFirstLineThatApplies : Prop :=
  ∀ (grade : Grade) (dose doseMinimum doseMaximum : Nat),
    dispositionOf grade dose doseMinimum doseMaximum =
      if grade = .suspect ∨ grade = .barred then .quarantine
      else if dose < doseMinimum then .regrindUnder
      else if doseMaximum < dose then .regrindOver
      else if grade = .noted then .cutNoted
      else .cut

/-- TAKE answers EMPTY on an empty queue; otherwise it resolves the head rod's lot chain, adds the
mark of a LOT_HELD or CHAIN_FAULT result and turns the disposition to QUARANTINE, answers the record
as it then stands, removes nothing, and then raises CHAIN_FAULT at every such result and QUARANTINE
where the disposition becomes it (R134, R135, R136). -/
def Obligations.TakeResolvesTheHeadAgain : Prop :=
  ∀ (s : State) (link : Link), s.readyAs link .stripper →
    (s.exitQueue = [] → exec (.take link) s = .next (s.answered link .empty)) ∧
    (∀ (id : Nat) (rest : List Nat) (r : RodRecord) (b e : Word32) (d : Disposition),
      s.exitQueue = id :: rest → s.rod id = some r → r.place = .exited b e d →
      let revised (m : Mark) : State :=
        { s with registry := { s.registry with
            rods := s.registry.rods.map fun x =>
              if x.id = id then { r.addMark m with place := .exited b e .quarantine } else x } }
      let becomes : List EventClass := if d = .quarantine then [] else [.quarantine]
      RodInv s →
      (resolveChain s.registry.lots r.lot = .clear →
        exec (.take link) s = .next (s.answered link .data (s.exitRecord id))) ∧
      (resolveChain s.registry.lots r.lot = .lotHeld →
        exec (.take link) s = .next
          (((revised .lotHeld).answered link .data ((revised .lotHeld).exitRecord id)).routeAll
            becomes)) ∧
      (resolveChain s.registry.lots r.lot = .chainFault →
        exec (.take link) s = .next
          (((revised .chainFault).answered link .data
            ((revised .chainFault).exitRecord id)).routeAll (.chainFault :: becomes))))

/-- CONFIRM refuses by the checks of R137 in order; accepted, the head record leaves the queue, the
rod is deleted and its lot's count falls, R10 applied; a step waiting in EXIT_WAIT moves to ADVANCING
at once, and no other step is started (R44, R137). -/
def Obligations.ConfirmRemovesTheHead : Prop :=
  ∀ (s : State) (link : Link) (rod : BitVec 16), s.readyAs link .stripper →
    let reason := firstReason
      [(decide (rod.toNat = 0), .range),
       (decide (rod.toNat ∉ s.exitQueue), .notFound),
       (decide (s.exitQueue.head? ≠ some rod.toNat), .mismatch)]
    (∀ r, reason = some r → exec (.confirm link rod) s = .next (s.answered link (.refused r))) ∧
    (reason = none → ∀ (r : RodRecord) (l : Lot), s.rod rod.toNat = some r →
      s.registry.lots[r.lot] = some l →
      let removed : State :=
        { s with
          registry :=
            { rods := s.registry.rods.filter fun x => x.id != rod.toNat
              lots := freeIfSpent (s.registry.lots.set r.lot
                (some { l with rodCount := l.rodCount - 1 })) r.lot }
          exitQueue := s.exitQueue.tail }
      ((∀ n, s.track.step ≠ .exitWait n) →
        exec (.confirm link rod) s = .next (removed.answered link .accepted)) ∧
      (∀ n, s.track.step = .exitWait n →
        exec (.confirm link rod) s = .next
          ((removed.enterAdvancing.1.routeAll removed.enterAdvancing.2).answered
            link .accepted)))

/-! ## Zones -/

/-- The governing format: the rod at the highest occupied position inside the window, otherwise the
one at the highest occupied position below its base, otherwise the running format or none (R97). A
recomputation that gives an enabled zone another governing format makes it AWAITING, discards its
report, sets its flag and leaves its staleness; the same format, and a disabled zone, leave the
channel; nothing outside the channels changes (R98, R99). -/
def Obligations.GoverningFormatAndRecomputation : Prop :=
  (∀ (s : State) (base limit : Nat), base ≤ limit →
      (∀ (p id : Nat) (r : RodRecord), base ≤ p → p ≤ limit →
        s.track.slots[p]? = some (some id) → s.rod id = some r →
        (∀ q, p < q → q ≤ limit → s.track.occupied q = false) →
        s.governingFormat base limit = some r.format) ∧
      (∀ (p id : Nat) (r : RodRecord), p < base → s.track.slots[p]? = some (some id) →
        s.rod id = some r → (∀ q, p < q → q ≤ limit → s.track.occupied q = false) →
        s.governingFormat base limit = some r.format) ∧
      ((∀ q, q ≤ limit → s.track.occupied q = false) →
        s.governingFormat base limit = s.admission.running)) ∧
  (∀ s : State,
      s.recomputeZones = { s with zones :=
        { s.zones with channels := s.recomputeZones.zones.channels } } ∧
      ∀ z : Zone,
        let c := s.zones.channels[z]
        let found := s.governingFormat c.base c.limit
        (c.enabled = false → s.recomputeZones.zones.channels[z] = c) ∧
        (c.enabled = true → c.governing = found → s.recomputeZones.zones.channels[z] = c) ∧
        (c.enabled = true → c.governing ≠ found → s.recomputeZones.zones.channels[z] =
          { c with governing := found, state := .awaiting, report := none, reportClass := .ok,
                   changed := true }))

/-- The class of a report: MAJOR where a deviation is greater than its limit band, otherwise MINOR
where one is greater than its tolerance band, otherwise OK (R106). The offer of a report to a
capture, by the class of the report and what the capture holds (R171). -/
def Obligations.ReportClassAndCapture : Prop :=
  (∀ (z : ZoneSchedule) (r : Report),
      let temperature := max r.temperature z.temperature - min r.temperature z.temperature
      let humidity := max r.humidity z.humidity - min r.humidity z.humidity
      classify z r =
        if z.temperatureLimit < temperature ∨ z.humidityLimit < humidity then .major
        else if z.temperatureTolerance < temperature ∨ z.humidityTolerance < humidity then .minor
        else .ok) ∧
  (∀ (c : Capture) (record : CaptureRecord),
      (record.reportClass = .ok → c.offer record = c) ∧
      (record.reportClass = .minor → c.record = none →
        c.offer record = { c with record := some record, minorSeen := true }) ∧
      (record.reportClass = .minor → c.record ≠ none →
        c.offer record = { c with minorSeen := true }) ∧
      (record.reportClass = .major → c.record = none →
        c.offer record = { c with record := some record, majorSeen := true }) ∧
      (∀ held, record.reportClass = .major → c.record = some held →
        (held.reportClass = .major → c.offer record = { c with majorSeen := true }) ∧
        (held.reportClass ≠ .major →
          c.offer record = { c with record := some record, majorSeen := true })))

/-- SETPOINT answers the governing format with its schedule for the issuing zone, or NO_SCHEDULE, and
in either case clears the schedule-changed flag and changes nothing else (R103). QUIET writes the
quiet flag of the issuing link, and refuses RANGE a flag that is neither on nor off (R110, R180). -/
def Obligations.SetpointAndQuiet : Prop :=
  (∀ (s : State) (link : Link) (z : Zone), s.readyAs link (.zone z) →
      let read : State := s.withChannel z { s.zones.channels[z] with changed := false }
      (s.zones.channels[z].governing = none →
        exec (.setpoint link) s = .next (read.answered link .noSchedule)) ∧
      (∀ (f : Nat) (entry : FormatEntry), s.zones.channels[z].governing = some f →
        s.format f = some entry →
        let schedule := entry.schedules[z]
        exec (.setpoint link) s = .next (read.answered link .data
          ([BitVec.ofNat 8 z.val, BitVec.ofNat 8 f] ++ twoBytes schedule.temperature ++
            [BitVec.ofNat 8 schedule.temperatureTolerance,
              BitVec.ofNat 8 schedule.temperatureLimit, BitVec.ofNat 8 schedule.humidity,
              BitVec.ofNat 8 schedule.humidityTolerance,
              BitVec.ofNat 8 schedule.humidityLimit])))) ∧
  (∀ (s : State) (link : Link) (z : Zone) (flag : Byte), s.readyAs link (.zone z) →
      (1 < flag.toNat → exec (.quiet link flag) s = .next (s.answered link (.refused .range))) ∧
      (flag.toNat ≤ 1 → exec (.quiet link flag) s = .next
        (State.answered
          { s with
            links := s.links.set link
              { s.links[link] with quiet := decide (flag.toNat = 1) } } link .accepted)))

/-- CLIMATE refuses by the checks of R104 in order; accepted, the report becomes the zone's last with
its class, the staleness count returns to 0 and the zone is REPORTING, the report is offered to the
zone's capture, and its event is raised. On a quiet link the same holds with no response, a refusal
latched as the last error (R104, R105, R107, R110, R171). -/
def Obligations.ClimateIsTakenOrRefused : Prop :=
  ∀ (s : State) (link : Link) (z : Zone) (format : Byte) (temperature : BitVec 16)
    (humidity doseRate : Byte), s.readyAs link (.zone z) →
    let c := s.zones.channels[z]
    let report : Report :=
      { format := format.toNat, temperature := temperature.toNat, humidity := humidity.toNat,
        doseRate := doseRate.toNat }
    let reason := firstReason
      [(decide (16 < format.toNat ∨ 1500 < temperature.toNat ∨ 100 < humidity.toNat), .range),
       (decide (c.state = .off), .state),
       (decide (format.toNat ≠ c.governing.getD 0), .scheduleChanged)]
    let quietly (u : State) : State :=
      { u with
        links := u.links.set link
          { u.links[link] with receiver := .hunt, contended := false, sent := [] } }
    let command := Instr.climate link format temperature humidity doseRate
    (∀ r, reason = some r →
      (s.links[link].quiet = false →
        exec command s = .next (s.answered link (.refused r))) ∧
      (s.links[link].quiet = true →
        exec command s = .next (quietly
          { s with links := s.links.set link { s.links[link] with lastError := .refusal r } }))) ∧
    (reason = none →
      (c.governing = none →
        let taken : State := s.withChannel z
          { c with report := some report, reportClass := .ok, staleness := 0,
                   state := .reporting }
        (s.links[link].quiet = false → exec command s = .next (taken.answered link .accepted)) ∧
        (s.links[link].quiet = true → exec command s = .next (quietly taken))) ∧
      (∀ (f : Nat) (entry : FormatEntry), c.governing = some f → s.format f = some entry →
        let k := classify entry.schedules[z] report
        let offered := s.router.captures[z].offer
          { reportClass := k, governing := f, temperature := report.temperature,
            humidity := report.humidity,
            temperatureSetpoint := entry.schedules[z].temperature,
            humiditySetpoint := entry.schedules[z].humidity, tick := s.exposure.tick,
            stepNumber := s.track.stepNumber }
        let taken : State :=
          { s.withChannel z { c with
              report := some report, reportClass := k, staleness := 0, state := .reporting } with
            router := { s.router with captures := s.router.captures.set z offered } }
        let raised : State := match k with
          | .ok => taken
          | .minor => taken.route .devMinor
          | .major => taken.route .devMajor
        (s.links[link].quiet = false → exec command s = .next (raised.answered link .accepted)) ∧
        (s.links[link].quiet = true → exec command s = .next (quietly raised))))

/-- TRIM_SETPOINT refuses RANGE and NOT_FOUND; accepted, the two setpoints of one format in one zone
are written, its bands stand, and the zones it governs are flagged (R111). -/
def Obligations.TrimSetpointWritesTwoSetpoints : Prop :=
  ∀ (s : State) (link : Link) (format zone : Byte) (temperature : BitVec 16) (humidity : Byte),
    s.readyAs link .supervisor →
    let reason := firstReason
      [(decide (format.toNat = 0 ∨ 16 < format.toNat ∨ 7 < zone.toNat ∨
          temperature.toNat < 200 ∨ 1100 < temperature.toNat ∨ humidity.toNat < 10 ∨
          95 < humidity.toNat), .range),
       ((s.format format.toNat).isNone, .notFound)]
    (∀ r, reason = some r →
      exec (.trimSetpoint link format zone temperature humidity) s =
        .next (s.answered link (.refused r))) ∧
    (reason = none → ∀ (i : Fin 16) (z : Zone) (entry : FormatEntry),
      format.toNat = i.val + 1 → zone.toNat = z.val → s.authority.formats[i] = some entry →
      exec (.trimSetpoint link format zone temperature humidity) s = .next
        ((State.scheduleChanged
          { s with authority := { s.authority with
              formats := s.authority.formats.set i (some { entry with
                schedules := entry.schedules.set z { entry.schedules[z] with
                  temperature := temperature.toNat, humidity := humidity.toNat } }) } }
          format.toNat).answered link .accepted))

/-! ## Authority and configuration -/

/-- CLAIM answers by the first line of R145 that applies, with the grant conditions of its table; a
grant makes the link the holder, and of RECONFIGURE also clears the lock (R145, R146). -/
def Obligations.ClaimIsAnsweredByTheFirstLine : Prop :=
  ∀ (s : State) (link : Link) (kind : Byte), s.ready link →
    let class_ := s.links[link].class_
    class_ = .supervisor ∨ class_ = .spreader →
    let line (holder : Option Link) (permitted condition : Bool) (granted : State) : State :=
      if permitted = false then s.answered link (.refused .class_)
      else if holder = some link then s.answered link .accepted
      else if holder ≠ none then s.answered link (.refused .claimedElsewhere)
      else if condition = false then s.answered link (.refused .state)
      else granted.answered link .accepted
    (3 ≤ kind.toNat → exec (.claim link kind) s = .next (s.answered link (.refused .range))) ∧
    (kind.toNat = 0 → exec (.claim link kind) s = .next
      (line s.authority.claims.changeover true
        (decide (s.admission.mode = .open_) && s.authority.claims.purge.isNone)
        { s with authority := { s.authority with
            claims := { s.authority.claims with changeover := some link } } })) ∧
    (kind.toNat = 1 → exec (.claim link kind) s = .next
      (line s.authority.claims.purge (decide (class_ = .supervisor))
        ((match s.admission.mode with
            | .open_ => true | .closed => true | .changeover _ _ => false) &&
          s.authority.claims.changeover.isNone)
        { s with authority := { s.authority with
            claims := { s.authority.claims with purge := some link } } })) ∧
    (kind.toNat = 2 → exec (.claim link kind) s = .next
      (line s.authority.claims.reconfigure (decide (class_ = .supervisor))
        (decide (s.track.motion = .stopped ∧ s.track.step = .idle))
        { s with authority := { s.authority with
            lock := false
            claims := { s.authority.claims with reconfigure := some link } } }))

/-- RELEASE refuses RANGE and CLAIM; accepted, the holder becomes no link, a changeover under way is
cancelled, a drain in progress is cancelled with the mode OPEN, and the lock stands (R84, R147,
R153). -/
def Obligations.ReleaseEndsTheClaimAndItsWork : Prop :=
  ∀ (s : State) (link : Link) (kind : Byte), s.ready link →
    s.links[link].class_ = .supervisor ∨ s.links[link].class_ = .spreader →
    let claims := s.authority.claims
    let reason := firstReason
      [(decide (3 ≤ kind.toNat), .range),
       (decide (kind.toNat = 0 ∧ claims.changeover ≠ some link), .claim),
       (decide (kind.toNat = 1 ∧ claims.purge ≠ some link), .claim),
       (decide (kind.toNat = 2 ∧ claims.reconfigure ≠ some link), .claim)]
    (∀ r, reason = some r →
      exec (.release link kind) s = .next (s.answered link (.refused r))) ∧
    (reason = none →
      (kind.toNat = 0 → exec (.release link kind) s = .next
        ({ s with
            authority := { s.authority with claims := { claims with changeover := none } }
            admission := { s.admission with
              mode := match s.admission.mode with
                | .changeover _ _ => .open_
                | .open_ => .open_
                | .closed => .closed } }.answered link .accepted)) ∧
      (kind.toNat = 1 → exec (.release link kind) s = .next
        ({ s with
            authority := { s.authority with
              claims := { claims with purge := none }, drain := false }
            admission := { s.admission with
              mode := if s.authority.drain then .open_ else s.admission.mode } }.answered
          link .accepted)) ∧
      (kind.toNat = 2 → exec (.release link kind) s = .next
        ({ s with authority := { s.authority with
            claims := { claims with reconfigure := none } } }.answered link .accepted)))

/-- PURGE refuses by the checks of R150 in order; accepted, admission is CLOSED and the drain in
progress, or complete at once with the line STOPPED and the claim released where the track holds no
rod and the step is IDLE (R150, R152). -/
def Obligations.PurgeClosesAdmissionAndDrains : Prop :=
  ∀ (s : State) (link : Link), s.readyAs link .supervisor →
    let reason := firstReason
      [(decide (s.authority.claims.purge ≠ some link), .claim),
       (s.authority.drain, .state),
       (decide (s.track.motion = .stopped ∨ s.track.motion = .holding), .state)]
    let atRest : Prop := (∀ x ∈ s.track.slots, x = none) ∧ s.track.step = .idle
    let closed : State := { s with admission := { s.admission with mode := .closed } }
    (∀ r, reason = some r → exec (.purge link) s = .next (s.answered link (.refused r))) ∧
    (reason = none → ¬ atRest → exec (.purge link) s = .next
      ({ closed with authority := { s.authority with drain := true } }.answered
        link .accepted)) ∧
    (reason = none → atRest → exec (.purge link) s = .next
      ({ closed with
          authority := { s.authority with
            drain := false, claims := { s.authority.claims with purge := none } }
          track := { s.track with
            motion := .stopped, causes := {}, owed := false, cadenceCount := 0 } }.answered
        link .accepted))

/-- Every configuration edit, and LOCK_CONFIG, is refused LOCKED while the lock is set and CLAIM from
a link that does not hold RECONFIGURE (R156, R157). LOCK_CONFIG is refused LOCKED and then CLAIM;
otherwise it sets the lock and releases the RECONFIGURE claim, with no check of its own on the
configuration (R157). -/
def Obligations.EditsAndLockConfig : Prop :=
  (∀ (s : State) (link : Link) (c : Instr), s.readyAs link .supervisor →
      (c = .lockConfig link ∨ (∃ length, c = .setTrackLength link length) ∨
        (∃ zone base limit, c = .setWindow link zone base limit) ∨
        (∃ entry, c = .setFormat link entry) ∨
        (∃ selector value, c = .setInterval link selector value)) →
      (s.authority.lock = true → exec c s = .next (s.answered link (.refused .locked))) ∧
      (s.authority.lock = false → s.authority.claims.reconfigure ≠ some link →
        exec c s = .next (s.answered link (.refused .claim)))) ∧
  (∀ (s : State) (link : Link), s.readyAs link .supervisor →
      (s.authority.lock = true →
        exec (.lockConfig link) s = .next (s.answered link (.refused .locked))) ∧
      (s.authority.lock = false → s.authority.claims.reconfigure ≠ some link →
        exec (.lockConfig link) s = .next (s.answered link (.refused .claim))) ∧
      (s.authority.lock = false → s.authority.claims.reconfigure = some link →
        exec (.lockConfig link) s = .next
          ({ s with authority := { s.authority with
              lock := true
              claims := { s.authority.claims with reconfigure := none } } }.answered
            link .accepted)))

/-- SET_TRACK_LENGTH refuses RANGE outside 16..1024 and below an enabled window's limit plus one;
accepted, the track is L gaps and nothing else changes (R22, R158). SET_INTERVAL refuses RANGE by
selector and range; accepted, it writes the one value, and with the exposure interval returns its
counter to 0 (R115, R155, R160). -/
def Obligations.SetTrackLengthAndSetInterval : Prop :=
  (∀ (s : State) (link : Link) (length : BitVec 16), s.readyAs link .supervisor →
      s.authority.lock = false → s.authority.claims.reconfigure = some link →
      let refused : Prop := length.toNat < 16 ∨ 1024 < length.toNat ∨
        ∃ z : Zone, s.zones.channels[z].enabled = true ∧
          length.toNat ≤ s.zones.channels[z].limit
      (refused →
        exec (.setTrackLength link length) s = .next (s.answered link (.refused .range))) ∧
      (¬ refused → exec (.setTrackLength link length) s = .next
        ({ s with track := { s.track with
            slots := List.replicate length.toNat none } }.answered link .accepted))) ∧
  (∀ (s : State) (link : Link) (selector : Byte) (value : BitVec 16),
      s.readyAs link .supervisor → s.authority.lock = false →
      s.authority.claims.reconfigure = some link →
      let command := Instr.setInterval link selector value
      let v := value.toNat
      let refused : State := s.answered link (.refused .range)
      (4 < selector.toNat → exec command s = .next refused) ∧
      (selector.toNat = 0 → exec command s = .next
        (if v ≤ 255 then
          { s with track := { s.track with settleInterval := v } }.answered link .accepted
        else refused)) ∧
      (selector.toNat = 1 → exec command s = .next
        (if 1 ≤ v ∧ v ≤ 255 then
          { s with track := { s.track with advanceLimit := v } }.answered link .accepted
        else refused)) ∧
      (selector.toNat = 2 → exec command s = .next
        (if 1 ≤ v then
          { s with track := { s.track with exitWaitLimit := v } }.answered link .accepted
        else refused)) ∧
      (selector.toNat = 3 → exec command s = .next
        ({ s with exposure := { s.exposure with interval := v, counter := 0 } }.answered
          link .accepted)) ∧
      (selector.toNat = 4 → exec command s = .next
        (if 1 ≤ v ∧ v ≤ 255 then
          { s with zones := { s.zones with stalenessLimit := v } }.answered link .accepted
        else refused)))

/-- SET_WINDOW refuses RANGE by the checks of R94; accepted, the window takes its values with the
effects of R95 on the channel, and the zones are recomputed (R94, R95, R98). -/
def Obligations.SetWindowMovesAWindow : Prop :=
  ∀ (s : State) (link : Link) (zone : Byte) (base limit : BitVec 16),
    s.readyAs link .supervisor → s.authority.lock = false →
    s.authority.claims.reconfigure = some link →
    let command := Instr.setWindow link zone base limit
    (7 < zone.toNat ∨ 1023 < base.toNat ∨ 1023 < limit.toNat →
      exec command s = .next (s.answered link (.refused .range))) ∧
    (∀ z : Zone, zone.toNat = z.val → base.toNat ≤ 1023 → limit.toNat ≤ 1023 →
      let c := s.zones.channels[z]
      let enabling : Prop := base.toNat ≤ limit.toNat
      let refused : Prop := enabling ∧ (s.track.length ≤ limit.toNat + 1 ∨
        ∃ (o : Zone) (p : Nat), o ≠ z ∧ s.zones.channels[o].covers p = true ∧
          base.toNat ≤ p ∧ p ≤ limit.toNat)
      let moved : ZoneChannel := { c with base := base.toNat, limit := limit.toNat }
      let answer (channel : ZoneChannel) : State :=
        (s.withChannel z channel).recomputeZones.answered link .accepted
      (refused → exec command s = .next (s.answered link (.refused .range))) ∧
      (¬ refused → c.enabled = false → enabling → exec command s = .next (answer
        { moved with
          state := .awaiting, governing := s.governingFormat base.toNat limit.toNat,
          staleness := 0, report := none, reportClass := .ok, changed := true })) ∧
      (¬ refused → c.enabled = true → enabling → exec command s = .next (answer moved)) ∧
      (¬ refused → c.enabled = true → ¬ enabling → exec command s = .next (answer
        { moved with
          state := .off, governing := none, report := none, reportClass := .ok,
          staleness := 0, changed := false })) ∧
      (¬ refused → c.enabled = false → ¬ enabling →
        exec command s = .next (answer moved)))

/-- SET_FORMAT refuses by the checks of R159 in order; accepted, the whole entry is written, or the
format is undefined, and the zones it governs are flagged (R101, R159). -/
def Obligations.SetFormatWritesTheEntry : Prop :=
  ∀ (s : State) (link : Link) (entry : FormatOperand), s.readyAs link .supervisor →
    s.authority.lock = false → s.authority.claims.reconfigure = some link →
    let number := entry.format.toNat
    let inRange : Prop := entry.dryingClass.toNat ≤ 7 ∧
      entry.doseMinimum.toNat ≤ entry.doseMaximum.toNat ∧
      entry.doseMaximum.toNat ≤ 4194303 ∧
      ∀ z : Zone,
        let y := entry.schedules[z]
        200 ≤ y.temperature.toNat ∧ y.temperature.toNat ≤ 1100 ∧
        y.temperatureTolerance.toNat ≤ 100 ∧ y.temperatureLimit.toNat ≤ 200 ∧
        y.temperatureTolerance.toNat ≤ y.temperatureLimit.toNat ∧
        10 ≤ y.humidity.toNat ∧ y.humidity.toNat ≤ 95 ∧
        y.humidityTolerance.toNat ≤ 20 ∧ y.humidityLimit.toNat ≤ 40 ∧
        y.humidityTolerance.toNat ≤ y.humidityLimit.toNat
    let inUse : Prop := s.admission.running = some number ∨
      ∃ i : Fin 32, s.registry.lots[i].map (·.format) = some number
    let written (i : Fin 16) (e : Option FormatEntry) : State :=
      State.scheduleChanged
        { s with authority := { s.authority with formats := s.authority.formats.set i e } }
        number
    (number = 0 ∨ 16 < number ∨ 1 < entry.isDefined.toNat →
      exec (.setFormat link entry) s = .next (s.answered link (.refused .range))) ∧
    (∀ i : Fin 16, number = i.val + 1 →
      (entry.isDefined.toNat = 0 → inUse →
        exec (.setFormat link entry) s = .next (s.answered link (.refused .state))) ∧
      (entry.isDefined.toNat = 0 → ¬ inUse →
        exec (.setFormat link entry) s = .next ((written i none).answered link .accepted)) ∧
      (entry.isDefined.toNat = 1 → ¬ inRange →
        exec (.setFormat link entry) s = .next (s.answered link (.refused .range))) ∧
      (entry.isDefined.toNat = 1 → inRange →
        exec (.setFormat link entry) s = .next
          ((written i (some
            { dryingClass := entry.dryingClass.toNat
              leadGap := entry.leadGap.toNat
              doseMinimum := entry.doseMinimum.toNat
              doseMaximum := entry.doseMaximum.toNat
              tolerance := entry.tolerance.toNat
              schedules := Vector.ofFn fun z : Zone =>
                { temperature := entry.schedules[z].temperature.toNat
                  temperatureTolerance := entry.schedules[z].temperatureTolerance.toNat
                  temperatureLimit := entry.schedules[z].temperatureLimit.toNat
                  humidity := entry.schedules[z].humidity.toNat
                  humidityTolerance := entry.schedules[z].humidityTolerance.toNat
                  humidityLimit := entry.schedules[z].humidityLimit.toNat } })).answered
            link .accepted)))

/-! ## Events, horn, notes and captures -/

/-- A raise applies the destination of its class, the effects of each including those of the one
before it: a note in every supervisory set, the horn request, and the EVENT cause outside STOPPED
(R55, R165). -/
def Obligations.RaisesApplyTheirDestination : Prop :=
  ∀ (s : State) (c : EventClass),
    let noted : State :=
      { s with router := { s.router with
          notes := Vector.ofFn fun l : Link =>
            if s.links[l].class_ = .supervisor then s.router.notes[l].set c.index true
            else s.router.notes[l] } }
    let sounded : State := { noted with router := { noted.router with horn := true } }
    (s.router.routes[c.index] = .nowhere → s.route c = s) ∧
    (s.router.routes[c.index] = .note → s.route c = noted) ∧
    (s.router.routes[c.index] = .horn → s.route c = sounded) ∧
    (s.router.routes[c.index] = .stop → s.track.motion = .stopped → s.route c = sounded) ∧
    (s.router.routes[c.index] = .stop → s.track.causes.event = true → s.route c = sounded) ∧
    (s.router.routes[c.index] = .stop → s.track.causes.event = false →
      s.track.motion = .holding ∨ s.track.motion = .held →
      s.route c = { sounded with track := { s.track with
        causes := { s.track.causes with event := true } } }) ∧
    (s.router.routes[c.index] = .stop → s.track.causes.event = false →
      s.track.motion = .running →
      (∀ n, s.track.step = .advancing n →
        s.route c = { sounded with track := { s.track with
          causes := { s.track.causes with event := true }, motion := .holding,
          owed := false } }) ∧
      ((∀ n, s.track.step ≠ .advancing n) → s.track.step ≠ .suspended →
        s.route c = { sounded with track := { s.track with
          causes := { s.track.causes with event := true }, motion := .held, step := .idle,
          owed := false, cadenceCount := 0 } }))

/-- READ_NOTES answers the classes of the link's own set by rising number, padded to twelve, the horn
request, the HORN level and the twelve destinations, and empties that set alone (R167). The
attention of a response: on a SUPERVISOR link whether its note set is not empty, on a ZONE link
the zone's schedule-changed flag, elsewhere clear (R102, R168). That the answer to READ_NOTES always
carries attention clear is the model's choice, log entry 25 (DESIGN CHOICE): R168 allows attention
set where a class joins the set between its emptying and the sending. -/
def Obligations.ReadNotesAndAttention : Prop :=
  let destinationCode (d : Destination) : Byte :=
    match d with
    | .nowhere => 0
    | .note => 1
    | .horn => 2
    | .stop => 3
  (∀ (s : State) (link : Link), s.readyAs link .supervisor →
      let numbers : List Byte :=
        ((List.finRange 12).filter fun i => s.router.notes[link][i]).map fun i =>
          BitVec.ofNat 8 (i.val + 1)
      let horn : Byte := if s.router.horn then 1 else 0
      exec (.readNotes link) s = .next
        ({ s with router := { s.router with
            notes := s.router.notes.set link (Vector.replicate 12 false) } }.answered link .data
          ([BitVec.ofNat 8 numbers.length] ++ numbers ++
            List.replicate (12 - numbers.length) 0 ++ [horn, horn] ++
            (List.finRange 12).map fun i : Fin 12 => destinationCode s.router.routes[i]))) ∧
  (∀ (s : State) (link : Link),
      (s.links[link].class_ = .supervisor →
        (s.attention link = true ↔ ∃ c : EventClass, s.router.notes[link][c.index] = true)) ∧
      (∀ z, s.links[link].class_ = .zone z →
        s.attention link = s.zones.channels[z].changed) ∧
      (s.links[link].class_ = .spreader ∨ s.links[link].class_ = .stripper ∨
        s.links[link].class_ = .unbound → s.attention link = false))

/-- CLEAR_CAPTURE is refused RANGE for a zone number outside 0..7, and otherwise empties the zone's
capture and clears both its flags, changing nothing else (R172). -/
def Obligations.ClearCaptureEmptiesTheCapture : Prop :=
  ∀ (s : State) (link : Link) (zone : Byte), s.readyAs link .supervisor →
    (7 < zone.toNat →
      exec (.clearCapture link zone) s = .next (s.answered link (.refused .range))) ∧
    (∀ z : Zone, zone.toNat = z.val →
      exec (.clearCapture link zone) s = .next
        ({ s with router := { s.router with
            captures := s.router.captures.set z
              { record := none, minorSeen := false, majorSeen := false } } }.answered
          link .accepted))

/-! ## Links -/

/-- LINK_STATUS answers class, tier, quiet flag, last error and cursor as they stood, each by its
number: the strap code of the class and its tier, 01h to 07h for link errors and BIND_CONFLICT, the
status code of a refusal (R174, R175, R176, R179); and the last error becomes none. SEEK refuses
RANGE, TIER and RANGE by the table of the record spaces, and otherwise sets the cursor; READ refuses
RANGE and STATE, and otherwise answers DATA with the stream to follow (R181, R182). The bytes of a
frame that the part sends, whose check makes their sum 0 (R176). -/
def Obligations.LinkStatusSeekAndRead : Prop :=
  let classCode (c : StationClass) : Byte :=
    match c with
    | .unbound => 0x00
    | .supervisor => 0x01
    | .spreader => 0x02
    | .stripper => 0x03
    | .zone n => BitVec.ofNat 8 (8 + n.val)
  let tierOf (c : StationClass) : Nat :=
    match c with
    | .supervisor => 0
    | .spreader => 1
    | .stripper => 1
    | .zone _ => 2
    | .unbound => 3
  let refusalCode (r : Reason) : Byte :=
    match r with
    | .class_ => 0x81
    | .tier => 0x82
    | .state => 0x83
    | .locked => 0x84
    | .claim => 0x85
    | .claimedElsewhere => 0x86
    | .full => 0x87
    | .duplicate => 0x88
    | .notFound => 0x89
    | .wrongFormat => 0x8A
    | .noLot => 0x8B
    | .range => 0x8C
    | .mismatch => 0x8D
    | .tooLate => 0x8E
    | .scheduleChanged => 0x8F
    | .notReady => 0x90
  let statusCode (a : Status) : Byte :=
    match a with
    | .accepted => 0x00
    | .data => 0x01
    | .empty => 0x02
    | .noSchedule => 0x03
    | .refused r => refusalCode r
  let errorCode (e : LastError) : Byte :=
    match e with
    | .clear => 0x00
    | .link .parity => 0x01
    | .link .framing => 0x02
    | .link .check => 0x03
    | .link .truncated => 0x04
    | .link .unknown => 0x05
    | .link .contention => 0x06
    | .bindConflict => 0x07
    | .refusal r => refusalCode r
  let spaceCode (k : Space) : Byte :=
    match k with
    | .ident => 0
    | .motion => 1
    | .track => 2
    | .zone => 3
    | .format => 4
    | .staging => 5
    | .exit => 6
    | .rod => 7
    | .lot => 8
    | .capture => 9
    | .claims => 10
  (∀ (s : State) (link : Link), s.ready link →
      let c := s.links[link]
      exec (.linkStatus link) s = .next
        (State.answered { s with links := s.links.set link { c with lastError := .clear } }
          link .data
          ([classCode c.class_, BitVec.ofNat 8 (tierOf c.class_), if c.quiet then 1 else 0,
            errorCode c.lastError,
            match c.cursor with
            | none => 0xFF
            | some k => spaceCode k.space] ++
            twoBytes (match c.cursor with
              | none => 0
              | some k => k.index)))) ∧
  (∀ (s : State) (link : Link), s.ready link →
      (∀ (code : Byte) (index : BitVec 16), spaceTable code.toNat = none →
        exec (.seek link code index) s = .next (s.answered link (.refused .range))) ∧
      (∀ (code : Byte) (index : BitVec 16) (space : Space) (tier first last : Nat),
        code = spaceCode space → spaceTable code.toNat = some (tier, first, last) →
        (tier < tierOf s.links[link].class_ →
          exec (.seek link code index) s = .next (s.answered link (.refused .tier))) ∧
        (tierOf s.links[link].class_ ≤ tier → index.toNat < first ∨ last < index.toNat →
          exec (.seek link code index) s = .next (s.answered link (.refused .range))) ∧
        (tierOf s.links[link].class_ ≤ tier → first ≤ index.toNat → index.toNat ≤ last →
          exec (.seek link code index) s = .next
            (State.answered
              { s with
                links := s.links.set link
                  { s.links[link] with
                    cursor := some { space := space, index := index.toNat } } }
              link .accepted))) ∧
      (∀ count advance : Byte,
        let reason := firstReason
          [(decide (count.toNat = 0 ∨ 64 < count.toNat ∨ 1 < advance.toNat), .range),
           (s.links[link].cursor.isNone, .state)]
        (∀ r, reason = some r →
          exec (.read link count advance) s = .next (s.answered link (.refused r))) ∧
        (reason = none → exec (.read link count advance) s = .next
          (s.answered link .data [] (some
            { left := count.toNat, advance := decide (advance.toNat = 1), sent := 0 }))))) ∧
  (∀ f : Frame, ∃ check : Byte,
      let content : List Byte :=
        (match f with
          | .response status attention payload =>
            [statusCode status, if attention then 1 else 0] ++ payload
          | .record space index body => [spaceCode space] ++ twoBytes index ++ body
          | .trailer sent => [0xFF, BitVec.ofNat 8 sent]) ++ [check]
      f.bytes = [0x7E] ++ content ∧ content.sum = 0)

/-- One turn of a stream: beyond the end of the space the trailer with the count sent, and IDLE;
otherwise the record as the part stands, the cursor moved on with advance, and after the last of
the count the trailer and IDLE (R182). Without a stream there is no turn (log entry 3). The end of
a response: IDLE, or after an accepted READ the stream, which ends at once with a trailer of 0
where the first index already lies beyond the end (R178, R182; log entry 9). Without a response
nothing ends (log entry 3). -/
def Obligations.StreamTurnsAndTheEndOfAResponse : Prop :=
  (∀ (s : State) (link : Link),
      let c := s.links[link]
      let put (c' : LinkChannel) : State := { s with links := s.links.set link c' }
      ((∀ j, c.transmitter ≠ .streaming j) → exec (.streamRecord link) s = .next s) ∧
      (∀ (j : StreamJob) (k : Cursor), c.transmitter = .streaming j → c.cursor = some k →
        (s.holdsRecord k.space k.index = false → exec (.streamRecord link) s = .next
          (put { c with transmitter := .idle, sent := [.trailer j.sent] })) ∧
        (s.holdsRecord k.space k.index = true →
          let record : Frame := .record k.space k.index (s.recordBytes k.space k.index)
          let moved : Cursor :=
            if j.advance then
              { k with index := if k.space = .rod ∧ k.index = 65535 then 0 else k.index + 1 }
            else k
          exec (.streamRecord link) s = .next (put
            (if j.left ≤ 1 then
              { c with transmitter := .idle, cursor := some moved,
                       sent := [record, .trailer (j.sent + 1)] }
            else
              { c with transmitter := .streaming { j with left := j.left - 1, sent := j.sent + 1 },
                       cursor := some moved, sent := [record] }))))) ∧
  (∀ (s : State) (link : Link),
      let c := s.links[link]
      let put (c' : LinkChannel) : State := { s with links := s.links.set link c' }
      ((∀ next, c.transmitter ≠ .responding next) → exec (.transmitComplete link) s = .next s) ∧
      (c.transmitter = .responding none →
        exec (.transmitComplete link) s = .next (put { c with transmitter := .idle })) ∧
      (∀ (j : StreamJob) (k : Cursor), c.transmitter = .responding (some j) →
        c.cursor = some k →
        (s.holdsRecord k.space k.index = true →
          exec (.transmitComplete link) s =
            .next (put { c with transmitter := .streaming j })) ∧
        (s.holdsRecord k.space k.index = false →
          exec (.transmitComplete link) s = .next
            (put { c with transmitter := .idle, sent := [.trailer j.sent] }))))

/-- A frame under way that ends with an error is discarded, the receiver is in HUNT, the error is
latched and LINK_FAULT raised on a bound link; in HUNT, as after a break or a device reset, there is
no frame and nothing happens (R177, R179, R187). More than 2 base ticks after its last byte a frame
ends TRUNCATED: by the limit itself, or before a discard, a 7Eh or a request that comes after it,
which is then taken in HUNT (R177, R187; that it waits for the next of these or for the next base
tick is log entry 4, and that its last byte is the last that came as a command log entry 12). On a link that is ready a 7Eh starts a frame in HUNT. In BODY it is the next
byte, and the limit restarts: as the command code it ends the frame UNKNOWN, as an operand it is data,
as the check it ends the frame CHECK or completes it, and the request is run (R176, R177; that this
7Eh comes as a command is log entry 21). While the link transmits the mark is discarded, and the first
of a transmission, by either of its commands, latches CONTENTION; while the line stays spacing it is
discarded without a latch; a return to marking ends that (R178, R185). That CONTENTION on a ready
link changes nothing is log entry 3. -/
def Obligations.MarksDiscardsAndErrors : Prop :=
  (∀ (s : State) (link : Link),
      let hunting : State :=
        { s with links := s.links.set link { s.links[link] with receiver := .hunt } }
      let truncated : State := hunting.latched link .truncated
      (s.links[link].receiver = .hunt →
        (∀ e : LinkError, exec (.frameDiscarded link e) s = .next s) ∧
        exec (.truncated link) s = .next s) ∧
      (∀ (gap : Nat) (bytes : List Byte), s.links[link].receiver = .body gap bytes →
        (∀ e : LinkError, e ≠ .truncated → e ≠ .contention →
          exec (.frameDiscarded link e) s =
            .next (if 2 < gap then truncated else hunting.latched link e)) ∧
        exec (.truncated link) s = .next (if 2 < gap then truncated else s) ∧
        (2 < gap → s.links[link].spacing = false → s.links[link].transmitter = .idle →
          exec (.openingMarkReceived link) s = exec (.openingMarkReceived link) truncated ∧
          ∀ (c : Instr) (code : Byte) (operands : List Byte),
            request c = some (link, code, operands) → exec c s = exec c truncated))) ∧
  (∀ (s : State) (link : Link) (gap : Nat) (bytes : List Byte), s.ready link →
      s.links[link].receiver = .body gap bytes →
      let hunting : State :=
        { s with links := s.links.set link { s.links[link] with receiver := .hunt } }
      let mark := Instr.openingMarkReceived link
      (bytes = [] → exec mark s = .next (hunting.latched link .unknown)) ∧
      (∀ (code : Byte) (operands : List Byte) (count : Nat), bytes = code :: operands →
        operandCount code.toNat = some count →
        (operands.length < count → exec mark s = .next
          { s with
            links := s.links.set link
              { s.links[link] with receiver := .body 0 (bytes ++ [0x7E]) } }) ∧
        (operands.length = count → bytes.sum + 0x7E ≠ 0 →
          exec mark s = .next (hunting.latched link .check)) ∧
        (operands.length = count → bytes.sum + 0x7E = 0 →
          ∀ c : Instr, request c = some (link, code, operands) → exec mark s = exec c s))) ∧
  (∀ (s : State) (link : Link),
      let c := s.links[link]
      let put (c' : LinkChannel) : State := { s with links := s.links.set link c' }
      (s.ready link → c.receiver = .hunt → exec (.openingMarkReceived link) s =
        .next (put { c with receiver := .body 0 [] })) ∧
      (s.ready link → exec (.contention link) s = .next s) ∧
      (c.spacing = true → exec (.openingMarkReceived link) s = .next s ∧
        exec (.contention link) s = .next s) ∧
      (c.spacing = false → c.transmitter ≠ .idle → c.contended = true →
        exec (.openingMarkReceived link) s = .next s ∧ exec (.contention link) s = .next s) ∧
      (c.spacing = false → c.transmitter ≠ .idle → c.contended = false →
        exec (.openingMarkReceived link) s =
          .next ((put { c with contended := true }).latched link .contention) ∧
        exec (.contention link) s =
          .next ((put { c with contended := true }).latched link .contention)) ∧
      exec (.lineReturnedToMarking link) s = .next (put { c with spacing := false }))

/-- A break resets the link, keeps its class, empties its notes and releases every claim it holds: a
changeover under way or a drain in progress is cancelled, and nothing else changes (R84, R148, R153,
R185). -/
def Obligations.BreakResetsTheLink : Prop :=
  ∀ (s : State) (link : Link),
    let claims := s.authority.claims
    let cancelled : Bool :=
      (decide (claims.changeover = some link) &&
        (match s.admission.mode with
          | .changeover _ _ => true | .open_ => false | .closed => false)) ||
      (decide (claims.purge = some link) && s.authority.drain)
    exec (.lineBreak link) s = .next
      { s with
        links := s.links.set link
          { class_ := s.links[link].class_, receiver := .hunt, transmitter := .idle,
            contended := false, spacing := true, cursor := none, quiet := false,
            lastError := .clear, sent := [] }
        router := { s.router with
          notes := s.router.notes.set link (Vector.replicate 12 false) }
        authority := { s.authority with
          claims :=
            { changeover := if claims.changeover = some link then none else claims.changeover
              purge := if claims.purge = some link then none else claims.purge
              reconfigure :=
                if claims.reconfigure = some link then none else claims.reconfigure }
          drain := if claims.purge = some link then false else s.authority.drain }
        admission := { s.admission with
          mode := if cancelled then .open_ else s.admission.mode } }
end

