-- ==== Sys2Proof/Laws/State.lean ====
section
/-! SUPPORT. What each update of the state writes and leaves: one lemma per field per update, all true
by `rfl`, so that no proof unfolds a record update. -/

namespace Sys2Proof.Machine

variable (s : State)

/-! ## mapRods -/

@[simp] theorem mapRods_registry (f : List RodRecord → List RodRecord) :
    (s.mapRods f).registry = { s.registry with rods := f s.registry.rods } := rfl
@[simp] theorem mapRods_admission (f : List RodRecord → List RodRecord) :
    (s.mapRods f).admission = s.admission := rfl
@[simp] theorem mapRods_track (f : List RodRecord → List RodRecord) :
    (s.mapRods f).track = s.track := rfl
@[simp] theorem mapRods_zones (f : List RodRecord → List RodRecord) :
    (s.mapRods f).zones = s.zones := rfl
@[simp] theorem mapRods_exposure (f : List RodRecord → List RodRecord) :
    (s.mapRods f).exposure = s.exposure := rfl
@[simp] theorem mapRods_exitQueue (f : List RodRecord → List RodRecord) :
    (s.mapRods f).exitQueue = s.exitQueue := rfl
@[simp] theorem mapRods_authority (f : List RodRecord → List RodRecord) :
    (s.mapRods f).authority = s.authority := rfl
@[simp] theorem mapRods_router (f : List RodRecord → List RodRecord) :
    (s.mapRods f).router = s.router := rfl
@[simp] theorem mapRods_links (f : List RodRecord → List RodRecord) :
    (s.mapRods f).links = s.links := rfl
@[simp] theorem mapRods_pending (f : List RodRecord → List RodRecord) :
    (s.mapRods f).pending = s.pending := rfl

/-! ## mapLots -/

@[simp] theorem mapLots_registry (f : LotTable → LotTable) :
    (s.mapLots f).registry = { s.registry with lots := f s.registry.lots } := rfl
@[simp] theorem mapLots_admission (f : LotTable → LotTable) :
    (s.mapLots f).admission = s.admission := rfl
@[simp] theorem mapLots_track (f : LotTable → LotTable) : (s.mapLots f).track = s.track := rfl
@[simp] theorem mapLots_zones (f : LotTable → LotTable) : (s.mapLots f).zones = s.zones := rfl
@[simp] theorem mapLots_exposure (f : LotTable → LotTable) :
    (s.mapLots f).exposure = s.exposure := rfl
@[simp] theorem mapLots_exitQueue (f : LotTable → LotTable) :
    (s.mapLots f).exitQueue = s.exitQueue := rfl
@[simp] theorem mapLots_authority (f : LotTable → LotTable) :
    (s.mapLots f).authority = s.authority := rfl
@[simp] theorem mapLots_router (f : LotTable → LotTable) : (s.mapLots f).router = s.router := rfl
@[simp] theorem mapLots_links (f : LotTable → LotTable) : (s.mapLots f).links = s.links := rfl
@[simp] theorem mapLots_pending (f : LotTable → LotTable) : (s.mapLots f).pending = s.pending := rfl

/-! ## mapTrack -/

@[simp] theorem mapTrack_registry (f : TrackControl → TrackControl) :
    (s.mapTrack f).registry = s.registry := rfl
@[simp] theorem mapTrack_admission (f : TrackControl → TrackControl) :
    (s.mapTrack f).admission = s.admission := rfl
@[simp] theorem mapTrack_track (f : TrackControl → TrackControl) :
    (s.mapTrack f).track = f s.track := rfl
@[simp] theorem mapTrack_zones (f : TrackControl → TrackControl) :
    (s.mapTrack f).zones = s.zones := rfl
@[simp] theorem mapTrack_exposure (f : TrackControl → TrackControl) :
    (s.mapTrack f).exposure = s.exposure := rfl
@[simp] theorem mapTrack_exitQueue (f : TrackControl → TrackControl) :
    (s.mapTrack f).exitQueue = s.exitQueue := rfl
@[simp] theorem mapTrack_authority (f : TrackControl → TrackControl) :
    (s.mapTrack f).authority = s.authority := rfl
@[simp] theorem mapTrack_router (f : TrackControl → TrackControl) :
    (s.mapTrack f).router = s.router := rfl
@[simp] theorem mapTrack_links (f : TrackControl → TrackControl) :
    (s.mapTrack f).links = s.links := rfl
@[simp] theorem mapTrack_pending (f : TrackControl → TrackControl) :
    (s.mapTrack f).pending = s.pending := rfl

/-! ## setStep -/

@[simp] theorem setStep_registry (p : StepState) : (s.setStep p).registry = s.registry := rfl
@[simp] theorem setStep_admission (p : StepState) : (s.setStep p).admission = s.admission := rfl
@[simp] theorem setStep_track (p : StepState) :
    (s.setStep p).track = { s.track with step := p } := rfl
@[simp] theorem setStep_zones (p : StepState) : (s.setStep p).zones = s.zones := rfl
@[simp] theorem setStep_exposure (p : StepState) : (s.setStep p).exposure = s.exposure := rfl
@[simp] theorem setStep_exitQueue (p : StepState) : (s.setStep p).exitQueue = s.exitQueue := rfl
@[simp] theorem setStep_authority (p : StepState) : (s.setStep p).authority = s.authority := rfl
@[simp] theorem setStep_router (p : StepState) : (s.setStep p).router = s.router := rfl
@[simp] theorem setStep_links (p : StepState) : (s.setStep p).links = s.links := rfl
@[simp] theorem setStep_pending (p : StepState) : (s.setStep p).pending = s.pending := rfl

/-! ## setMode -/

@[simp] theorem setMode_registry (m : AdmissionMode) : (s.setMode m).registry = s.registry := rfl
@[simp] theorem setMode_admission (m : AdmissionMode) :
    (s.setMode m).admission = { s.admission with mode := m } := rfl
@[simp] theorem setMode_track (m : AdmissionMode) : (s.setMode m).track = s.track := rfl
@[simp] theorem setMode_zones (m : AdmissionMode) : (s.setMode m).zones = s.zones := rfl
@[simp] theorem setMode_exposure (m : AdmissionMode) : (s.setMode m).exposure = s.exposure := rfl
@[simp] theorem setMode_exitQueue (m : AdmissionMode) : (s.setMode m).exitQueue = s.exitQueue := rfl
@[simp] theorem setMode_authority (m : AdmissionMode) : (s.setMode m).authority = s.authority := rfl
@[simp] theorem setMode_router (m : AdmissionMode) : (s.setMode m).router = s.router := rfl
@[simp] theorem setMode_links (m : AdmissionMode) : (s.setMode m).links = s.links := rfl
@[simp] theorem setMode_pending (m : AdmissionMode) : (s.setMode m).pending = s.pending := rfl

/-! ## mapAuthority -/

@[simp] theorem mapAuthority_registry (f : Authority → Authority) :
    (s.mapAuthority f).registry = s.registry := rfl
@[simp] theorem mapAuthority_admission (f : Authority → Authority) :
    (s.mapAuthority f).admission = s.admission := rfl
@[simp] theorem mapAuthority_track (f : Authority → Authority) :
    (s.mapAuthority f).track = s.track := rfl
@[simp] theorem mapAuthority_zones (f : Authority → Authority) :
    (s.mapAuthority f).zones = s.zones := rfl
@[simp] theorem mapAuthority_exposure (f : Authority → Authority) :
    (s.mapAuthority f).exposure = s.exposure := rfl
@[simp] theorem mapAuthority_exitQueue (f : Authority → Authority) :
    (s.mapAuthority f).exitQueue = s.exitQueue := rfl
@[simp] theorem mapAuthority_authority (f : Authority → Authority) :
    (s.mapAuthority f).authority = f s.authority := rfl
@[simp] theorem mapAuthority_router (f : Authority → Authority) :
    (s.mapAuthority f).router = s.router := rfl
@[simp] theorem mapAuthority_links (f : Authority → Authority) :
    (s.mapAuthority f).links = s.links := rfl
@[simp] theorem mapAuthority_pending (f : Authority → Authority) :
    (s.mapAuthority f).pending = s.pending := rfl

/-! ## setHolder -/

@[simp] theorem setHolder_registry (k : ClaimKind) (h : Option Link) :
    (s.setHolder k h).registry = s.registry := rfl
@[simp] theorem setHolder_admission (k : ClaimKind) (h : Option Link) :
    (s.setHolder k h).admission = s.admission := rfl
@[simp] theorem setHolder_track (k : ClaimKind) (h : Option Link) :
    (s.setHolder k h).track = s.track := rfl
@[simp] theorem setHolder_zones (k : ClaimKind) (h : Option Link) :
    (s.setHolder k h).zones = s.zones := rfl
@[simp] theorem setHolder_exposure (k : ClaimKind) (h : Option Link) :
    (s.setHolder k h).exposure = s.exposure := rfl
@[simp] theorem setHolder_exitQueue (k : ClaimKind) (h : Option Link) :
    (s.setHolder k h).exitQueue = s.exitQueue := rfl
@[simp] theorem setHolder_authority (k : ClaimKind) (h : Option Link) :
    (s.setHolder k h).authority =
      { s.authority with claims := s.authority.claims.setHolder k h } := rfl
@[simp] theorem setHolder_router (k : ClaimKind) (h : Option Link) :
    (s.setHolder k h).router = s.router := rfl
@[simp] theorem setHolder_links (k : ClaimKind) (h : Option Link) :
    (s.setHolder k h).links = s.links := rfl
@[simp] theorem setHolder_pending (k : ClaimKind) (h : Option Link) :
    (s.setHolder k h).pending = s.pending := rfl

/-! ## mapChannels -/

@[simp] theorem mapChannels_registry (f : Zone → ZoneChannel → ZoneChannel) :
    (s.mapChannels f).registry = s.registry := rfl
@[simp] theorem mapChannels_admission (f : Zone → ZoneChannel → ZoneChannel) :
    (s.mapChannels f).admission = s.admission := rfl
@[simp] theorem mapChannels_track (f : Zone → ZoneChannel → ZoneChannel) :
    (s.mapChannels f).track = s.track := rfl
@[simp] theorem mapChannels_zones (f : Zone → ZoneChannel → ZoneChannel) :
    (s.mapChannels f).zones =
      { s.zones with channels := Vector.ofFn fun z : Zone => f z s.zones.channels[z] } := rfl
@[simp] theorem mapChannels_exposure (f : Zone → ZoneChannel → ZoneChannel) :
    (s.mapChannels f).exposure = s.exposure := rfl
@[simp] theorem mapChannels_exitQueue (f : Zone → ZoneChannel → ZoneChannel) :
    (s.mapChannels f).exitQueue = s.exitQueue := rfl
@[simp] theorem mapChannels_authority (f : Zone → ZoneChannel → ZoneChannel) :
    (s.mapChannels f).authority = s.authority := rfl
@[simp] theorem mapChannels_router (f : Zone → ZoneChannel → ZoneChannel) :
    (s.mapChannels f).router = s.router := rfl
@[simp] theorem mapChannels_links (f : Zone → ZoneChannel → ZoneChannel) :
    (s.mapChannels f).links = s.links := rfl
@[simp] theorem mapChannels_pending (f : Zone → ZoneChannel → ZoneChannel) :
    (s.mapChannels f).pending = s.pending := rfl

/-! ## changeChannel -/

@[simp] theorem changeChannel_registry (z : Zone) (f : ZoneChannel → ZoneChannel) :
    (s.changeChannel z f).registry = s.registry := rfl
@[simp] theorem changeChannel_admission (z : Zone) (f : ZoneChannel → ZoneChannel) :
    (s.changeChannel z f).admission = s.admission := rfl
@[simp] theorem changeChannel_track (z : Zone) (f : ZoneChannel → ZoneChannel) :
    (s.changeChannel z f).track = s.track := rfl
@[simp] theorem changeChannel_zones (z : Zone) (f : ZoneChannel → ZoneChannel) :
    (s.changeChannel z f).zones =
      { s.zones with channels := s.zones.channels.set z (f s.zones.channels[z]) } := rfl
@[simp] theorem changeChannel_exposure (z : Zone) (f : ZoneChannel → ZoneChannel) :
    (s.changeChannel z f).exposure = s.exposure := rfl
@[simp] theorem changeChannel_exitQueue (z : Zone) (f : ZoneChannel → ZoneChannel) :
    (s.changeChannel z f).exitQueue = s.exitQueue := rfl
@[simp] theorem changeChannel_authority (z : Zone) (f : ZoneChannel → ZoneChannel) :
    (s.changeChannel z f).authority = s.authority := rfl
@[simp] theorem changeChannel_router (z : Zone) (f : ZoneChannel → ZoneChannel) :
    (s.changeChannel z f).router = s.router := rfl
@[simp] theorem changeChannel_links (z : Zone) (f : ZoneChannel → ZoneChannel) :
    (s.changeChannel z f).links = s.links := rfl
@[simp] theorem changeChannel_pending (z : Zone) (f : ZoneChannel → ZoneChannel) :
    (s.changeChannel z f).pending = s.pending := rfl

/-! ## changeCapture -/

@[simp] theorem changeCapture_registry (z : Zone) (f : Capture → Capture) :
    (s.changeCapture z f).registry = s.registry := rfl
@[simp] theorem changeCapture_admission (z : Zone) (f : Capture → Capture) :
    (s.changeCapture z f).admission = s.admission := rfl
@[simp] theorem changeCapture_track (z : Zone) (f : Capture → Capture) :
    (s.changeCapture z f).track = s.track := rfl
@[simp] theorem changeCapture_zones (z : Zone) (f : Capture → Capture) :
    (s.changeCapture z f).zones = s.zones := rfl
@[simp] theorem changeCapture_exposure (z : Zone) (f : Capture → Capture) :
    (s.changeCapture z f).exposure = s.exposure := rfl
@[simp] theorem changeCapture_exitQueue (z : Zone) (f : Capture → Capture) :
    (s.changeCapture z f).exitQueue = s.exitQueue := rfl
@[simp] theorem changeCapture_authority (z : Zone) (f : Capture → Capture) :
    (s.changeCapture z f).authority = s.authority := rfl
@[simp] theorem changeCapture_router (z : Zone) (f : Capture → Capture) :
    (s.changeCapture z f).router =
      { s.router with captures := s.router.captures.set z (f s.router.captures[z]) } := rfl
@[simp] theorem changeCapture_links (z : Zone) (f : Capture → Capture) :
    (s.changeCapture z f).links = s.links := rfl
@[simp] theorem changeCapture_pending (z : Zone) (f : Capture → Capture) :
    (s.changeCapture z f).pending = s.pending := rfl

/-! ## soundHorn -/

@[simp] theorem soundHorn_registry : (s.soundHorn).registry = s.registry := rfl
@[simp] theorem soundHorn_admission : (s.soundHorn).admission = s.admission := rfl
@[simp] theorem soundHorn_track : (s.soundHorn).track = s.track := rfl
@[simp] theorem soundHorn_zones : (s.soundHorn).zones = s.zones := rfl
@[simp] theorem soundHorn_exposure : (s.soundHorn).exposure = s.exposure := rfl
@[simp] theorem soundHorn_exitQueue : (s.soundHorn).exitQueue = s.exitQueue := rfl
@[simp] theorem soundHorn_authority : (s.soundHorn).authority = s.authority := rfl
@[simp] theorem soundHorn_router : (s.soundHorn).router = { s.router with horn := true } := rfl
@[simp] theorem soundHorn_links : (s.soundHorn).links = s.links := rfl
@[simp] theorem soundHorn_pending : (s.soundHorn).pending = s.pending := rfl

/-! ## emptyNotes -/

@[simp] theorem emptyNotes_registry (l : Link) : (s.emptyNotes l).registry = s.registry := rfl
@[simp] theorem emptyNotes_admission (l : Link) : (s.emptyNotes l).admission = s.admission := rfl
@[simp] theorem emptyNotes_track (l : Link) : (s.emptyNotes l).track = s.track := rfl
@[simp] theorem emptyNotes_zones (l : Link) : (s.emptyNotes l).zones = s.zones := rfl
@[simp] theorem emptyNotes_exposure (l : Link) : (s.emptyNotes l).exposure = s.exposure := rfl
@[simp] theorem emptyNotes_exitQueue (l : Link) : (s.emptyNotes l).exitQueue = s.exitQueue := rfl
@[simp] theorem emptyNotes_authority (l : Link) : (s.emptyNotes l).authority = s.authority := rfl
@[simp] theorem emptyNotes_router (l : Link) :
    (s.emptyNotes l).router = { s.router with notes := s.router.notes.set l noEvents } := rfl
@[simp] theorem emptyNotes_links (l : Link) : (s.emptyNotes l).links = s.links := rfl
@[simp] theorem emptyNotes_pending (l : Link) : (s.emptyNotes l).pending = s.pending := rfl

/-! ## joinNotes -/

@[simp] theorem joinNotes_registry (c : EventClass) : (s.joinNotes c).registry = s.registry := rfl
@[simp] theorem joinNotes_admission (c : EventClass) :
    (s.joinNotes c).admission = s.admission := rfl
@[simp] theorem joinNotes_track (c : EventClass) : (s.joinNotes c).track = s.track := rfl
@[simp] theorem joinNotes_zones (c : EventClass) : (s.joinNotes c).zones = s.zones := rfl
@[simp] theorem joinNotes_exposure (c : EventClass) : (s.joinNotes c).exposure = s.exposure := rfl
@[simp] theorem joinNotes_exitQueue (c : EventClass) :
    (s.joinNotes c).exitQueue = s.exitQueue := rfl
@[simp] theorem joinNotes_authority (c : EventClass) :
    (s.joinNotes c).authority = s.authority := rfl
@[simp] theorem joinNotes_router (c : EventClass) :
    (s.joinNotes c).router = { s.router with notes := Vector.ofFn fun l : Link =>
      if s.links[l].class_ = .supervisor then s.router.notes[l].set c.index true
      else s.router.notes[l] } := rfl
@[simp] theorem joinNotes_links (c : EventClass) : (s.joinNotes c).links = s.links := rfl
@[simp] theorem joinNotes_pending (c : EventClass) : (s.joinNotes c).pending = s.pending := rfl

/-! ## changeLink -/

@[simp] theorem changeLink_registry (l : Link) (f : LinkChannel → LinkChannel) :
    (s.changeLink l f).registry = s.registry := rfl
@[simp] theorem changeLink_admission (l : Link) (f : LinkChannel → LinkChannel) :
    (s.changeLink l f).admission = s.admission := rfl
@[simp] theorem changeLink_track (l : Link) (f : LinkChannel → LinkChannel) :
    (s.changeLink l f).track = s.track := rfl
@[simp] theorem changeLink_zones (l : Link) (f : LinkChannel → LinkChannel) :
    (s.changeLink l f).zones = s.zones := rfl
@[simp] theorem changeLink_exposure (l : Link) (f : LinkChannel → LinkChannel) :
    (s.changeLink l f).exposure = s.exposure := rfl
@[simp] theorem changeLink_exitQueue (l : Link) (f : LinkChannel → LinkChannel) :
    (s.changeLink l f).exitQueue = s.exitQueue := rfl
@[simp] theorem changeLink_authority (l : Link) (f : LinkChannel → LinkChannel) :
    (s.changeLink l f).authority = s.authority := rfl
@[simp] theorem changeLink_router (l : Link) (f : LinkChannel → LinkChannel) :
    (s.changeLink l f).router = s.router := rfl
@[simp] theorem changeLink_links (l : Link) (f : LinkChannel → LinkChannel) :
    (s.changeLink l f).links = s.links.set l (f s.links[l]) := rfl
@[simp] theorem changeLink_pending (l : Link) (f : LinkChannel → LinkChannel) :
    (s.changeLink l f).pending = s.pending := rfl

/-! ## endFrame -/

@[simp] theorem endFrame_registry (l : Link) : (s.endFrame l).registry = s.registry := rfl
@[simp] theorem endFrame_admission (l : Link) : (s.endFrame l).admission = s.admission := rfl
@[simp] theorem endFrame_track (l : Link) : (s.endFrame l).track = s.track := rfl
@[simp] theorem endFrame_zones (l : Link) : (s.endFrame l).zones = s.zones := rfl
@[simp] theorem endFrame_exposure (l : Link) : (s.endFrame l).exposure = s.exposure := rfl
@[simp] theorem endFrame_exitQueue (l : Link) : (s.endFrame l).exitQueue = s.exitQueue := rfl
@[simp] theorem endFrame_authority (l : Link) : (s.endFrame l).authority = s.authority := rfl
@[simp] theorem endFrame_router (l : Link) : (s.endFrame l).router = s.router := rfl
@[simp] theorem endFrame_links (l : Link) :
    (s.endFrame l).links = s.links.set l { s.links[l] with receiver := .hunt } := rfl
@[simp] theorem endFrame_pending (l : Link) : (s.endFrame l).pending = s.pending := rfl

/-! ## respond -/

@[simp] theorem respond_registry (l : Link) (a : Answer) (j : Option StreamJob) :
    (s.respond l a j).registry = s.registry := rfl
@[simp] theorem respond_admission (l : Link) (a : Answer) (j : Option StreamJob) :
    (s.respond l a j).admission = s.admission := rfl
@[simp] theorem respond_track (l : Link) (a : Answer) (j : Option StreamJob) :
    (s.respond l a j).track = s.track := rfl
@[simp] theorem respond_zones (l : Link) (a : Answer) (j : Option StreamJob) :
    (s.respond l a j).zones = s.zones := rfl
@[simp] theorem respond_exposure (l : Link) (a : Answer) (j : Option StreamJob) :
    (s.respond l a j).exposure = s.exposure := rfl
@[simp] theorem respond_exitQueue (l : Link) (a : Answer) (j : Option StreamJob) :
    (s.respond l a j).exitQueue = s.exitQueue := rfl
@[simp] theorem respond_authority (l : Link) (a : Answer) (j : Option StreamJob) :
    (s.respond l a j).authority = s.authority := rfl
@[simp] theorem respond_router (l : Link) (a : Answer) (j : Option StreamJob) :
    (s.respond l a j).router = s.router := rfl
@[simp] theorem respond_links (l : Link) (a : Answer) (j : Option StreamJob) :
    (s.respond l a j).links = s.links.set l
      { s.links[l] with
        transmitter := .responding j, contended := false, sent := [s.responseFrame l a] } := rfl
@[simp] theorem respond_pending (l : Link) (a : Answer) (j : Option StreamJob) :
    (s.respond l a j).pending = s.pending := rfl

end Sys2Proof.Machine
end

