-- ==== Sys2Proof/Laws/Ops.lean ====
section
/-! SUPPORT. What the shared operations can do: adding a hold cause, the entries to the motion states,
routing an event. A proof about a command cites these and unfolds none of them. -/

namespace Sys2Proof.Machine

/-! ## Operand forms -/

theorem inRange_iff (lo hi n : Nat) : inRange lo hi n = true ↔ lo ≤ n ∧ n ≤ hi := by
  unfold inRange; simp

theorem zoneOf_of_eq {b : Byte} {z : Zone} (h : b.toNat = z.val) : zoneOf b = some z := by
  unfold zoneOf; rw [dif_pos (by omega)]; congr 1; exact Fin.ext h

theorem zoneOf_of_lt {b : Byte} (h : 7 < b.toNat) : zoneOf b = none := by
  unfold zoneOf; rw [dif_neg (by omega)]

theorem formatIndex_of_eq {n : Nat} {i : Fin 16} (h : n = i.val + 1) : formatIndex n = some i := by
  unfold formatIndex; rw [dif_pos (by omega)]; congr 1; apply Fin.ext; simp [h]

theorem formatIndex_of_out {n : Nat} (h : n = 0 ∨ 16 < n) : formatIndex n = none := by
  unfold formatIndex; rw [dif_neg (by omega)]

/-! ## Adding a hold cause (R36, R51) -/

section AddCause
variable (k : Cause) (t : TrackControl)

theorem addCause_cases :
    (t.addCause k = t ∧ (t.causes.has k = true ∨ t.motion = .stopped)) ∨
    (t.causes.has k = false ∧
      ((t.motion = .running ∧ (∀ n, t.step ≠ .advancing n) ∧
          t.addCause k = { t with causes := t.causes.insert k, motion := .held, owed := false,
                                  cadenceCount := 0,
                                  step := if t.step = .suspended then .suspended else .idle }) ∨
       (t.motion = .running ∧ (∃ n, t.step = .advancing n) ∧
          t.addCause k = { t with causes := t.causes.insert k, motion := .holding, owed := false }) ∨
       ((t.motion = .holding ∨ t.motion = .held) ∧
          t.addCause k = { t with causes := t.causes.insert k }))) := by
  obtain ⟨slots, motion, causes, step, owed, cc, cp, si, al, ew, sn, hl, ad⟩ := t
  unfold TrackControl.addCause
  cases hk : causes.has k <;> cases motion <;> cases step <;>
    simp [TrackControl.enterHeld, TrackControl.enterHolding]

@[simp] theorem addCause_slots : (t.addCause k).slots = t.slots := by
  rcases addCause_cases k t with ⟨h, _⟩ | ⟨_, ⟨_, _, h⟩ | ⟨_, _, h⟩ | ⟨_, h⟩⟩ <;> rw [h]

@[simp] theorem addCause_stepNumber : (t.addCause k).stepNumber = t.stepNumber := by
  rcases addCause_cases k t with ⟨h, _⟩ | ⟨_, ⟨_, _, h⟩ | ⟨_, _, h⟩ | ⟨_, h⟩⟩ <;> rw [h]

@[simp] theorem addCause_cadenceCompare : (t.addCause k).cadenceCompare = t.cadenceCompare := by
  rcases addCause_cases k t with ⟨h, _⟩ | ⟨_, ⟨_, _, h⟩ | ⟨_, _, h⟩ | ⟨_, h⟩⟩ <;> rw [h]

@[simp] theorem addCause_settleInterval : (t.addCause k).settleInterval = t.settleInterval := by
  rcases addCause_cases k t with ⟨h, _⟩ | ⟨_, ⟨_, _, h⟩ | ⟨_, _, h⟩ | ⟨_, h⟩⟩ <;> rw [h]

@[simp] theorem addCause_advanceLimit : (t.addCause k).advanceLimit = t.advanceLimit := by
  rcases addCause_cases k t with ⟨h, _⟩ | ⟨_, ⟨_, _, h⟩ | ⟨_, _, h⟩ | ⟨_, h⟩⟩ <;> rw [h]

@[simp] theorem addCause_exitWaitLimit : (t.addCause k).exitWaitLimit = t.exitWaitLimit := by
  rcases addCause_cases k t with ⟨h, _⟩ | ⟨_, ⟨_, _, h⟩ | ⟨_, _, h⟩ | ⟨_, h⟩⟩ <;> rw [h]

@[simp] theorem addCause_holdLine : (t.addCause k).holdLine = t.holdLine := by
  rcases addCause_cases k t with ⟨h, _⟩ | ⟨_, ⟨_, _, h⟩ | ⟨_, _, h⟩ | ⟨_, h⟩⟩ <;> rw [h]

@[simp] theorem addCause_advanceDoneLine : (t.addCause k).advanceDoneLine = t.advanceDoneLine := by
  rcases addCause_cases k t with ⟨h, _⟩ | ⟨_, ⟨_, _, h⟩ | ⟨_, _, h⟩ | ⟨_, h⟩⟩ <;> rw [h]

@[simp] theorem addCause_length : (t.addCause k).length = t.length := by
  simp [TrackControl.length]

@[simp] theorem addCause_isEmpty : (t.addCause k).isEmpty = t.isEmpty := by
  simp [TrackControl.isEmpty]

@[simp] theorem addCause_lastSlot : (t.addCause k).lastSlot = t.lastSlot := by
  simp [TrackControl.lastSlot]

/-- A cause never enters or leaves STOPPED (R51). -/
@[simp] theorem addCause_stopped : (t.addCause k).motion = .stopped ↔ t.motion = .stopped := by
  rcases addCause_cases k t with ⟨h, _⟩ | ⟨_, ⟨m, _, h⟩ | ⟨m, _, h⟩ | ⟨m, h⟩⟩ <;> rw [h]
  · simp [m]
  · simp [m]

theorem addCause_of_stopped (h : t.motion = .stopped) : t.addCause k = t := by
  unfold TrackControl.addCause; simp [h]

/-- A step in ADVANCING, and only that, is ADVANCING after a cause is added (R36, R51). -/
@[simp] theorem addCause_advanceLine : (t.addCause k).advanceLine = t.advanceLine := by
  rcases addCause_cases k t with ⟨h, _⟩ | ⟨_, ⟨_, n, h⟩ | ⟨_, _, h⟩ | ⟨_, h⟩⟩ <;> rw [h]
  · cases hs : t.step <;> simp_all [TrackControl.advanceLine]
  · simp [TrackControl.advanceLine]
  · simp [TrackControl.advanceLine]

/-- A suspended step, and only that, is suspended after a cause is added (R39, R51). -/
@[simp] theorem addCause_suspended : (t.addCause k).step = .suspended ↔ t.step = .suspended := by
  rcases addCause_cases k t with ⟨h, _⟩ | ⟨_, ⟨_, _, h⟩ | ⟨_, _, h⟩ | ⟨_, h⟩⟩ <;> rw [h]
  by_cases hs : t.step = .suspended <;> simp [hs]

end AddCause

/-! ## Routing an event (R165) -/

section Route
variable (c : EventClass) (s : State)

@[simp] theorem route_registry : (s.route c).registry = s.registry := by
  unfold State.route; split <;> simp

@[simp] theorem route_admission : (s.route c).admission = s.admission := by
  unfold State.route; split <;> simp

@[simp] theorem route_zones : (s.route c).zones = s.zones := by
  unfold State.route; split <;> simp

@[simp] theorem route_exposure : (s.route c).exposure = s.exposure := by
  unfold State.route; split <;> simp

@[simp] theorem route_exitQueue : (s.route c).exitQueue = s.exitQueue := by
  unfold State.route; split <;> simp

@[simp] theorem route_authority : (s.route c).authority = s.authority := by
  unfold State.route; split <;> simp

@[simp] theorem route_links : (s.route c).links = s.links := by
  unfold State.route; split <;> simp

@[simp] theorem route_pending : (s.route c).pending = s.pending := by
  unfold State.route; split <;> simp

@[simp] theorem route_routes : (s.route c).router.routes = s.router.routes := by
  unfold State.route; split <;> simp

@[simp] theorem route_captures : (s.route c).router.captures = s.router.captures := by
  unfold State.route; split <;> simp

theorem route_track : (s.route c).track =
    if s.router.routes[c.index] = .stop then s.track.addCause .event else s.track := by
  unfold State.route; split <;> simp_all

end Route

section RouteAll
variable (cs : List EventClass) (s : State)

@[simp] theorem routeAll_nil : s.routeAll [] = s := rfl

@[simp] theorem routeAll_cons (c : EventClass) :
    s.routeAll (c :: cs) = (s.route c).routeAll cs := rfl

@[simp] theorem routeAll_registry : (s.routeAll cs).registry = s.registry := by
  induction cs generalizing s <;> simp_all

@[simp] theorem routeAll_admission : (s.routeAll cs).admission = s.admission := by
  induction cs generalizing s <;> simp_all

@[simp] theorem routeAll_zones : (s.routeAll cs).zones = s.zones := by
  induction cs generalizing s <;> simp_all

@[simp] theorem routeAll_exposure : (s.routeAll cs).exposure = s.exposure := by
  induction cs generalizing s <;> simp_all

@[simp] theorem routeAll_exitQueue : (s.routeAll cs).exitQueue = s.exitQueue := by
  induction cs generalizing s <;> simp_all

@[simp] theorem routeAll_authority : (s.routeAll cs).authority = s.authority := by
  induction cs generalizing s <;> simp_all

@[simp] theorem routeAll_links : (s.routeAll cs).links = s.links := by
  induction cs generalizing s <;> simp_all

@[simp] theorem routeAll_pending : (s.routeAll cs).pending = s.pending := by
  induction cs generalizing s <;> simp_all

@[simp] theorem routeAll_routes : (s.routeAll cs).router.routes = s.router.routes := by
  induction cs generalizing s <;> simp_all

@[simp] theorem routeAll_captures : (s.routeAll cs).router.captures = s.router.captures := by
  induction cs generalizing s <;> simp_all

/-- Routing reaches the track controller through the EVENT cause alone (R55, R165). -/
theorem routeAll_track (P : TrackControl → Prop) (h : P s.track)
    (keep : ∀ t, P t → P (t.addCause .event)) : P (s.routeAll cs).track := by
  induction cs generalizing s with
  | nil => exact h
  | cons c cs ih =>
    rw [routeAll_cons]
    apply ih
    rw [route_track]
    split
    · exact keep _ h
    · exact h

/-- Where no class raised is routed to STOP, routing leaves the track controller. -/
theorem routeAll_track_of_noStop (h : ∀ c ∈ cs, s.router.routes[c.index] ≠ .stop) :
    (s.routeAll cs).track = s.track := by
  induction cs generalizing s with
  | nil => rfl
  | cons c cs ih =>
    rw [routeAll_cons, ih (s.route c)]
    · rw [route_track, if_neg (h c (by simp))]
    · intro d hd; simpa using h d (by simp [hd])

end RouteAll

end Sys2Proof.Machine
end

