-- ==== Sys2Proof/Laws/Frames.lean ====
section
/-! SUPPORT. What the shared operations leave: one lemma per operation and per field that it never
writes. A proof about one field cites these and unfolds none of the operations. -/

namespace Sys2Proof.Machine

variable (s : State)

/-! ## deleteRod -/

@[simp] theorem deleteRod_admission (id : Nat) : (s.deleteRod id).admission = s.admission := by
  unfold State.deleteRod; split <;> rfl
@[simp] theorem deleteRod_track (id : Nat) : (s.deleteRod id).track = s.track := by
  unfold State.deleteRod; split <;> rfl
@[simp] theorem deleteRod_zones (id : Nat) : (s.deleteRod id).zones = s.zones := by
  unfold State.deleteRod; split <;> rfl
@[simp] theorem deleteRod_exposure (id : Nat) : (s.deleteRod id).exposure = s.exposure := by
  unfold State.deleteRod; split <;> rfl
@[simp] theorem deleteRod_exitQueue (id : Nat) : (s.deleteRod id).exitQueue = s.exitQueue := by
  unfold State.deleteRod; split <;> rfl
@[simp] theorem deleteRod_authority (id : Nat) : (s.deleteRod id).authority = s.authority := by
  unfold State.deleteRod; split <;> rfl
@[simp] theorem deleteRod_router (id : Nat) : (s.deleteRod id).router = s.router := by
  unfold State.deleteRod; split <;> rfl
@[simp] theorem deleteRod_links (id : Nat) : (s.deleteRod id).links = s.links := by
  unfold State.deleteRod; split <;> rfl
@[simp] theorem deleteRod_pending (id : Nat) : (s.deleteRod id).pending = s.pending := by
  unfold State.deleteRod; split <;> rfl

/-! ## recomputeZones -/

@[simp] theorem recomputeZones_registry : s.recomputeZones.registry = s.registry := rfl
@[simp] theorem recomputeZones_admission : s.recomputeZones.admission = s.admission := rfl
@[simp] theorem recomputeZones_track : s.recomputeZones.track = s.track := rfl
@[simp] theorem recomputeZones_exposure : s.recomputeZones.exposure = s.exposure := rfl
@[simp] theorem recomputeZones_exitQueue : s.recomputeZones.exitQueue = s.exitQueue := rfl
@[simp] theorem recomputeZones_authority : s.recomputeZones.authority = s.authority := rfl
@[simp] theorem recomputeZones_router : s.recomputeZones.router = s.router := rfl
@[simp] theorem recomputeZones_links : s.recomputeZones.links = s.links := rfl
@[simp] theorem recomputeZones_pending : s.recomputeZones.pending = s.pending := rfl

/-! ## flagGoverned -/

@[simp] theorem flagGoverned_registry (n : Nat) : (s.flagGoverned n).registry = s.registry := rfl
@[simp] theorem flagGoverned_admission (n : Nat) : (s.flagGoverned n).admission = s.admission := rfl
@[simp] theorem flagGoverned_track (n : Nat) : (s.flagGoverned n).track = s.track := rfl
@[simp] theorem flagGoverned_exposure (n : Nat) : (s.flagGoverned n).exposure = s.exposure := rfl
@[simp] theorem flagGoverned_exitQueue (n : Nat) : (s.flagGoverned n).exitQueue = s.exitQueue := rfl
@[simp] theorem flagGoverned_authority (n : Nat) : (s.flagGoverned n).authority = s.authority := rfl
@[simp] theorem flagGoverned_router (n : Nat) : (s.flagGoverned n).router = s.router := rfl
@[simp] theorem flagGoverned_links (n : Nat) : (s.flagGoverned n).links = s.links := rfl
@[simp] theorem flagGoverned_pending (n : Nat) : (s.flagGoverned n).pending = s.pending := rfl

/-! ## hangRod -/

@[simp] theorem hangRod_track (id : Nat) (lot : Fin 32) (f : Nat) :
    (s.hangRod id lot f).track = s.track := by
  unfold State.hangRod; dsimp only; split <;> rfl
@[simp] theorem hangRod_exposure (id : Nat) (lot : Fin 32) (f : Nat) :
    (s.hangRod id lot f).exposure = s.exposure := by
  unfold State.hangRod; dsimp only; split <;> rfl
@[simp] theorem hangRod_exitQueue (id : Nat) (lot : Fin 32) (f : Nat) :
    (s.hangRod id lot f).exitQueue = s.exitQueue := by
  unfold State.hangRod; dsimp only; split <;> rfl
@[simp] theorem hangRod_authority (id : Nat) (lot : Fin 32) (f : Nat) :
    (s.hangRod id lot f).authority = s.authority := by
  unfold State.hangRod; dsimp only; split <;> rfl
@[simp] theorem hangRod_router (id : Nat) (lot : Fin 32) (f : Nat) :
    (s.hangRod id lot f).router = s.router := by
  unfold State.hangRod; dsimp only; split <;> rfl
@[simp] theorem hangRod_links (id : Nat) (lot : Fin 32) (f : Nat) :
    (s.hangRod id lot f).links = s.links := by
  unfold State.hangRod; dsimp only; split <;> rfl
@[simp] theorem hangRod_pending (id : Nat) (lot : Fin 32) (f : Nat) :
    (s.hangRod id lot f).pending = s.pending := by
  unfold State.hangRod; dsimp only; split <;> rfl

/-! ## offerCapture -/

@[simp] theorem offerCapture_registry (z : Zone) (r : Report) :
    (s.offerCapture z r).registry = s.registry := by
  unfold State.offerCapture; split <;> rfl
@[simp] theorem offerCapture_admission (z : Zone) (r : Report) :
    (s.offerCapture z r).admission = s.admission := by
  unfold State.offerCapture; split <;> rfl
@[simp] theorem offerCapture_track (z : Zone) (r : Report) :
    (s.offerCapture z r).track = s.track := by
  unfold State.offerCapture; split <;> rfl
@[simp] theorem offerCapture_zones (z : Zone) (r : Report) :
    (s.offerCapture z r).zones = s.zones := by
  unfold State.offerCapture; split <;> rfl
@[simp] theorem offerCapture_exposure (z : Zone) (r : Report) :
    (s.offerCapture z r).exposure = s.exposure := by
  unfold State.offerCapture; split <;> rfl
@[simp] theorem offerCapture_exitQueue (z : Zone) (r : Report) :
    (s.offerCapture z r).exitQueue = s.exitQueue := by
  unfold State.offerCapture; split <;> rfl
@[simp] theorem offerCapture_authority (z : Zone) (r : Report) :
    (s.offerCapture z r).authority = s.authority := by
  unfold State.offerCapture; split <;> rfl
@[simp] theorem offerCapture_links (z : Zone) (r : Report) :
    (s.offerCapture z r).links = s.links := by
  unfold State.offerCapture; split <;> rfl
@[simp] theorem offerCapture_pending (z : Zone) (r : Report) :
    (s.offerCapture z r).pending = s.pending := by
  unfold State.offerCapture; split <;> rfl

/-! ## acceptReport -/

@[simp] theorem acceptReport_registry (z : Zone) (r : Report) :
    (s.acceptReport z r).registry = s.registry := by
  unfold State.acceptReport; simp
@[simp] theorem acceptReport_admission (z : Zone) (r : Report) :
    (s.acceptReport z r).admission = s.admission := by
  unfold State.acceptReport; simp
@[simp] theorem acceptReport_exposure (z : Zone) (r : Report) :
    (s.acceptReport z r).exposure = s.exposure := by
  unfold State.acceptReport; simp
@[simp] theorem acceptReport_exitQueue (z : Zone) (r : Report) :
    (s.acceptReport z r).exitQueue = s.exitQueue := by
  unfold State.acceptReport; simp
@[simp] theorem acceptReport_authority (z : Zone) (r : Report) :
    (s.acceptReport z r).authority = s.authority := by
  unfold State.acceptReport; simp
@[simp] theorem acceptReport_links (z : Zone) (r : Report) :
    (s.acceptReport z r).links = s.links := by
  unfold State.acceptReport; simp
@[simp] theorem acceptReport_pending (z : Zone) (r : Report) :
    (s.acceptReport z r).pending = s.pending := by
  unfold State.acceptReport; simp

/-! ## completeDrain -/

@[simp] theorem completeDrain_registry : s.completeDrain.registry = s.registry := rfl
@[simp] theorem completeDrain_admission : s.completeDrain.admission = s.admission := rfl
@[simp] theorem completeDrain_zones : s.completeDrain.zones = s.zones := rfl
@[simp] theorem completeDrain_exposure : s.completeDrain.exposure = s.exposure := rfl
@[simp] theorem completeDrain_exitQueue : s.completeDrain.exitQueue = s.exitQueue := rfl
@[simp] theorem completeDrain_router : s.completeDrain.router = s.router := rfl
@[simp] theorem completeDrain_links : s.completeDrain.links = s.links := rfl
@[simp] theorem completeDrain_pending : s.completeDrain.pending = s.pending := rfl

/-! ## checkDrain -/

@[simp] theorem checkDrain_registry : s.checkDrain.registry = s.registry := by
  unfold State.checkDrain; split <;> rfl
@[simp] theorem checkDrain_admission : s.checkDrain.admission = s.admission := by
  unfold State.checkDrain; split <;> rfl
@[simp] theorem checkDrain_zones : s.checkDrain.zones = s.zones := by
  unfold State.checkDrain; split <;> rfl
@[simp] theorem checkDrain_exposure : s.checkDrain.exposure = s.exposure := by
  unfold State.checkDrain; split <;> rfl
@[simp] theorem checkDrain_exitQueue : s.checkDrain.exitQueue = s.exitQueue := by
  unfold State.checkDrain; split <;> rfl
@[simp] theorem checkDrain_router : s.checkDrain.router = s.router := by
  unfold State.checkDrain; split <;> rfl
@[simp] theorem checkDrain_links : s.checkDrain.links = s.links := by
  unfold State.checkDrain; split <;> rfl
@[simp] theorem checkDrain_pending : s.checkDrain.pending = s.pending := by
  unfold State.checkDrain; split <;> rfl

/-! ## beginDrain -/

@[simp] theorem beginDrain_registry : s.beginDrain.registry = s.registry := by
  unfold State.beginDrain; dsimp only; split <;> simp
@[simp] theorem beginDrain_zones : s.beginDrain.zones = s.zones := by
  unfold State.beginDrain; dsimp only; split <;> simp
@[simp] theorem beginDrain_exposure : s.beginDrain.exposure = s.exposure := by
  unfold State.beginDrain; dsimp only; split <;> simp
@[simp] theorem beginDrain_exitQueue : s.beginDrain.exitQueue = s.exitQueue := by
  unfold State.beginDrain; dsimp only; split <;> simp
@[simp] theorem beginDrain_router : s.beginDrain.router = s.router := by
  unfold State.beginDrain; dsimp only; split <;> simp
@[simp] theorem beginDrain_links : s.beginDrain.links = s.links := by
  unfold State.beginDrain; dsimp only; split <;> simp
@[simp] theorem beginDrain_pending : s.beginDrain.pending = s.pending := by
  unfold State.beginDrain; dsimp only; split <;> simp

/-! ## stopLine -/

@[simp] theorem stopLine_registry : s.stopLine.registry = s.registry := by
  unfold State.stopLine; simp
@[simp] theorem stopLine_admission : s.stopLine.admission = s.admission := by
  unfold State.stopLine; simp
@[simp] theorem stopLine_zones : s.stopLine.zones = s.zones := by
  unfold State.stopLine; simp
@[simp] theorem stopLine_exposure : s.stopLine.exposure = s.exposure := by
  unfold State.stopLine; simp
@[simp] theorem stopLine_exitQueue : s.stopLine.exitQueue = s.exitQueue := by
  unfold State.stopLine; simp
@[simp] theorem stopLine_router : s.stopLine.router = s.router := by
  unfold State.stopLine; simp
@[simp] theorem stopLine_links : s.stopLine.links = s.links := by
  unfold State.stopLine; simp
@[simp] theorem stopLine_pending : s.stopLine.pending = s.pending := by
  unfold State.stopLine; simp

/-! ## cancelPending -/

@[simp] theorem cancelPending_registry : s.cancelPending.registry = s.registry := by
  unfold State.cancelPending; split <;> rfl
@[simp] theorem cancelPending_track : s.cancelPending.track = s.track := by
  unfold State.cancelPending; split <;> rfl
@[simp] theorem cancelPending_zones : s.cancelPending.zones = s.zones := by
  unfold State.cancelPending; split <;> rfl
@[simp] theorem cancelPending_exposure : s.cancelPending.exposure = s.exposure := by
  unfold State.cancelPending; split <;> rfl
@[simp] theorem cancelPending_exitQueue : s.cancelPending.exitQueue = s.exitQueue := by
  unfold State.cancelPending; split <;> rfl
@[simp] theorem cancelPending_authority : s.cancelPending.authority = s.authority := by
  unfold State.cancelPending; split <;> rfl
@[simp] theorem cancelPending_router : s.cancelPending.router = s.router := by
  unfold State.cancelPending; split <;> rfl
@[simp] theorem cancelPending_links : s.cancelPending.links = s.links := by
  unfold State.cancelPending; split <;> rfl
@[simp] theorem cancelPending_pending : s.cancelPending.pending = s.pending := by
  unfold State.cancelPending; split <;> rfl

/-! ## cancelDrain -/

@[simp] theorem cancelDrain_registry : s.cancelDrain.registry = s.registry := by
  unfold State.cancelDrain; split <;> rfl
@[simp] theorem cancelDrain_track : s.cancelDrain.track = s.track := by
  unfold State.cancelDrain; split <;> rfl
@[simp] theorem cancelDrain_zones : s.cancelDrain.zones = s.zones := by
  unfold State.cancelDrain; split <;> rfl
@[simp] theorem cancelDrain_exposure : s.cancelDrain.exposure = s.exposure := by
  unfold State.cancelDrain; split <;> rfl
@[simp] theorem cancelDrain_exitQueue : s.cancelDrain.exitQueue = s.exitQueue := by
  unfold State.cancelDrain; split <;> rfl
@[simp] theorem cancelDrain_router : s.cancelDrain.router = s.router := by
  unfold State.cancelDrain; split <;> rfl
@[simp] theorem cancelDrain_links : s.cancelDrain.links = s.links := by
  unfold State.cancelDrain; split <;> rfl
@[simp] theorem cancelDrain_pending : s.cancelDrain.pending = s.pending := by
  unfold State.cancelDrain; split <;> rfl

/-! ## loseClaim -/

@[simp] theorem loseClaim_registry (k : ClaimKind) : (s.loseClaim k).registry = s.registry := by
  cases k <;> simp [State.loseClaim]
@[simp] theorem loseClaim_track (k : ClaimKind) : (s.loseClaim k).track = s.track := by
  cases k <;> simp [State.loseClaim]
@[simp] theorem loseClaim_zones (k : ClaimKind) : (s.loseClaim k).zones = s.zones := by
  cases k <;> simp [State.loseClaim]
@[simp] theorem loseClaim_exposure (k : ClaimKind) : (s.loseClaim k).exposure = s.exposure := by
  cases k <;> simp [State.loseClaim]
@[simp] theorem loseClaim_exitQueue (k : ClaimKind) : (s.loseClaim k).exitQueue = s.exitQueue := by
  cases k <;> simp [State.loseClaim]
@[simp] theorem loseClaim_router (k : ClaimKind) : (s.loseClaim k).router = s.router := by
  cases k <;> simp [State.loseClaim]
@[simp] theorem loseClaim_links (k : ClaimKind) : (s.loseClaim k).links = s.links := by
  cases k <;> simp [State.loseClaim]
@[simp] theorem loseClaim_pending (k : ClaimKind) : (s.loseClaim k).pending = s.pending := by
  cases k <;> simp [State.loseClaim]

/-! ## loseClaimOf -/

@[simp] theorem loseClaimOf_registry (l : Link) (k : ClaimKind) :
    (s.loseClaimOf l k).registry = s.registry := by
  unfold State.loseClaimOf; split <;> simp
@[simp] theorem loseClaimOf_track (l : Link) (k : ClaimKind) :
    (s.loseClaimOf l k).track = s.track := by
  unfold State.loseClaimOf; split <;> simp
@[simp] theorem loseClaimOf_zones (l : Link) (k : ClaimKind) :
    (s.loseClaimOf l k).zones = s.zones := by
  unfold State.loseClaimOf; split <;> simp
@[simp] theorem loseClaimOf_exposure (l : Link) (k : ClaimKind) :
    (s.loseClaimOf l k).exposure = s.exposure := by
  unfold State.loseClaimOf; split <;> simp
@[simp] theorem loseClaimOf_exitQueue (l : Link) (k : ClaimKind) :
    (s.loseClaimOf l k).exitQueue = s.exitQueue := by
  unfold State.loseClaimOf; split <;> simp
@[simp] theorem loseClaimOf_router (l : Link) (k : ClaimKind) :
    (s.loseClaimOf l k).router = s.router := by
  unfold State.loseClaimOf; split <;> simp
@[simp] theorem loseClaimOf_links (l : Link) (k : ClaimKind) :
    (s.loseClaimOf l k).links = s.links := by
  unfold State.loseClaimOf; split <;> simp
@[simp] theorem loseClaimOf_pending (l : Link) (k : ClaimKind) :
    (s.loseClaimOf l k).pending = s.pending := by
  unfold State.loseClaimOf; split <;> simp

/-! ## loseClaimsOf -/

@[simp] theorem loseClaimsOf_registry (l : Link) : (s.loseClaimsOf l).registry = s.registry := by
  unfold State.loseClaimsOf; simp
@[simp] theorem loseClaimsOf_track (l : Link) : (s.loseClaimsOf l).track = s.track := by
  unfold State.loseClaimsOf; simp
@[simp] theorem loseClaimsOf_zones (l : Link) : (s.loseClaimsOf l).zones = s.zones := by
  unfold State.loseClaimsOf; simp
@[simp] theorem loseClaimsOf_exposure (l : Link) : (s.loseClaimsOf l).exposure = s.exposure := by
  unfold State.loseClaimsOf; simp
@[simp] theorem loseClaimsOf_exitQueue (l : Link) : (s.loseClaimsOf l).exitQueue = s.exitQueue := by
  unfold State.loseClaimsOf; simp
@[simp] theorem loseClaimsOf_router (l : Link) : (s.loseClaimsOf l).router = s.router := by
  unfold State.loseClaimsOf; simp
@[simp] theorem loseClaimsOf_links (l : Link) : (s.loseClaimsOf l).links = s.links := by
  unfold State.loseClaimsOf; simp
@[simp] theorem loseClaimsOf_pending (l : Link) : (s.loseClaimsOf l).pending = s.pending := by
  unfold State.loseClaimsOf; simp

/-! ## grant -/

@[simp] theorem grant_registry (l : Link) (k : ClaimKind) :
    (s.grant l k).registry = s.registry := by
  cases k <;> rfl
@[simp] theorem grant_admission (l : Link) (k : ClaimKind) :
    (s.grant l k).admission = s.admission := by
  cases k <;> rfl
@[simp] theorem grant_track (l : Link) (k : ClaimKind) : (s.grant l k).track = s.track := by
  cases k <;> rfl
@[simp] theorem grant_zones (l : Link) (k : ClaimKind) : (s.grant l k).zones = s.zones := by
  cases k <;> rfl
@[simp] theorem grant_exposure (l : Link) (k : ClaimKind) :
    (s.grant l k).exposure = s.exposure := by
  cases k <;> rfl
@[simp] theorem grant_exitQueue (l : Link) (k : ClaimKind) :
    (s.grant l k).exitQueue = s.exitQueue := by
  cases k <;> rfl
@[simp] theorem grant_router (l : Link) (k : ClaimKind) : (s.grant l k).router = s.router := by
  cases k <;> rfl
@[simp] theorem grant_links (l : Link) (k : ClaimKind) : (s.grant l k).links = s.links := by
  cases k <;> rfl
@[simp] theorem grant_pending (l : Link) (k : ClaimKind) : (s.grant l k).pending = s.pending := by
  cases k <;> rfl

/-! ## bindChoice -/

@[simp] theorem bindChoice_track : s.bindChoice.1.track = s.track := by
  unfold State.bindChoice; split <;> rfl
@[simp] theorem bindChoice_zones : s.bindChoice.1.zones = s.zones := by
  unfold State.bindChoice; split <;> rfl
@[simp] theorem bindChoice_exposure : s.bindChoice.1.exposure = s.exposure := by
  unfold State.bindChoice; split <;> rfl
@[simp] theorem bindChoice_exitQueue : s.bindChoice.1.exitQueue = s.exitQueue := by
  unfold State.bindChoice; split <;> rfl
@[simp] theorem bindChoice_authority : s.bindChoice.1.authority = s.authority := by
  unfold State.bindChoice; split <;> rfl
@[simp] theorem bindChoice_router : s.bindChoice.1.router = s.router := by
  unfold State.bindChoice; split <;> rfl
@[simp] theorem bindChoice_links : s.bindChoice.1.links = s.links := by
  unfold State.bindChoice; split <;> rfl
@[simp] theorem bindChoice_pending : s.bindChoice.1.pending = s.pending := by
  unfold State.bindChoice; split <;> rfl

/-! ## enterAdvancing -/

@[simp] theorem enterAdvancing_zones : s.enterAdvancing.1.zones = s.zones := by
  unfold State.enterAdvancing; simp
@[simp] theorem enterAdvancing_exposure : s.enterAdvancing.1.exposure = s.exposure := by
  unfold State.enterAdvancing; simp
@[simp] theorem enterAdvancing_exitQueue : s.enterAdvancing.1.exitQueue = s.exitQueue := by
  unfold State.enterAdvancing; simp
@[simp] theorem enterAdvancing_authority : s.enterAdvancing.1.authority = s.authority := by
  unfold State.enterAdvancing; simp
@[simp] theorem enterAdvancing_router : s.enterAdvancing.1.router = s.router := by
  unfold State.enterAdvancing; simp
@[simp] theorem enterAdvancing_links : s.enterAdvancing.1.links = s.links := by
  unfold State.enterAdvancing; simp
@[simp] theorem enterAdvancing_pending : s.enterAdvancing.1.pending = s.pending := by
  unfold State.enterAdvancing; simp

/-! ## beginStep -/

@[simp] theorem beginStep_zones : s.beginStep.1.zones = s.zones := by
  unfold State.beginStep; split <;> simp
@[simp] theorem beginStep_exposure : s.beginStep.1.exposure = s.exposure := by
  unfold State.beginStep; split <;> simp
@[simp] theorem beginStep_exitQueue : s.beginStep.1.exitQueue = s.exitQueue := by
  unfold State.beginStep; split <;> simp
@[simp] theorem beginStep_authority : s.beginStep.1.authority = s.authority := by
  unfold State.beginStep; split <;> simp
@[simp] theorem beginStep_router : s.beginStep.1.router = s.router := by
  unfold State.beginStep; split <;> simp
@[simp] theorem beginStep_links : s.beginStep.1.links = s.links := by
  unfold State.beginStep; split <;> simp
@[simp] theorem beginStep_pending : s.beginStep.1.pending = s.pending := by
  unfold State.beginStep; split <;> simp

/-! ## takeExit -/

@[simp] theorem takeExit_admission : s.takeExit.1.admission = s.admission := by
  unfold State.takeExit; split <;> rfl
@[simp] theorem takeExit_track : s.takeExit.1.track = s.track := by
  unfold State.takeExit; split <;> rfl
@[simp] theorem takeExit_zones : s.takeExit.1.zones = s.zones := by
  unfold State.takeExit; split <;> rfl
@[simp] theorem takeExit_exposure : s.takeExit.1.exposure = s.exposure := by
  unfold State.takeExit; split <;> rfl
@[simp] theorem takeExit_authority : s.takeExit.1.authority = s.authority := by
  unfold State.takeExit; split <;> rfl
@[simp] theorem takeExit_router : s.takeExit.1.router = s.router := by
  unfold State.takeExit; split <;> rfl
@[simp] theorem takeExit_links : s.takeExit.1.links = s.links := by
  unfold State.takeExit; split <;> rfl
@[simp] theorem takeExit_pending : s.takeExit.1.pending = s.pending := by
  unfold State.takeExit; split <;> rfl

/-! ## moveSlots -/

@[simp] theorem moveSlots_zones : s.moveSlots.zones = s.zones := rfl
@[simp] theorem moveSlots_exposure : s.moveSlots.exposure = s.exposure := rfl
@[simp] theorem moveSlots_exitQueue : s.moveSlots.exitQueue = s.exitQueue := rfl
@[simp] theorem moveSlots_authority : s.moveSlots.authority = s.authority := rfl
@[simp] theorem moveSlots_router : s.moveSlots.router = s.router := rfl
@[simp] theorem moveSlots_links : s.moveSlots.links = s.links := rfl
@[simp] theorem moveSlots_pending : s.moveSlots.pending = s.pending := rfl

/-! ## noteBoarded -/

@[simp] theorem noteBoarded_registry (b : Boarding) : (s.noteBoarded b).registry = s.registry := by
  unfold State.noteBoarded; split <;> (try split) <;> (try split) <;> rfl
@[simp] theorem noteBoarded_track (b : Boarding) : (s.noteBoarded b).track = s.track := by
  unfold State.noteBoarded; split <;> (try split) <;> (try split) <;> rfl
@[simp] theorem noteBoarded_zones (b : Boarding) : (s.noteBoarded b).zones = s.zones := by
  unfold State.noteBoarded; split <;> (try split) <;> (try split) <;> rfl
@[simp] theorem noteBoarded_exposure (b : Boarding) : (s.noteBoarded b).exposure = s.exposure := by
  unfold State.noteBoarded; split <;> (try split) <;> (try split) <;> rfl
@[simp] theorem noteBoarded_exitQueue (b : Boarding) :
    (s.noteBoarded b).exitQueue = s.exitQueue := by
  unfold State.noteBoarded; split <;> (try split) <;> (try split) <;> rfl
@[simp] theorem noteBoarded_router (b : Boarding) : (s.noteBoarded b).router = s.router := by
  unfold State.noteBoarded; split <;> (try split) <;> (try split) <;> rfl
@[simp] theorem noteBoarded_links (b : Boarding) : (s.noteBoarded b).links = s.links := by
  unfold State.noteBoarded; split <;> (try split) <;> (try split) <;> rfl
@[simp] theorem noteBoarded_pending (b : Boarding) : (s.noteBoarded b).pending = s.pending := by
  unfold State.noteBoarded; split <;> (try split) <;> (try split) <;> rfl

/-! ## raiseStepNumber -/

@[simp] theorem raiseStepNumber_registry : s.raiseStepNumber.registry = s.registry := rfl
@[simp] theorem raiseStepNumber_admission : s.raiseStepNumber.admission = s.admission := rfl
@[simp] theorem raiseStepNumber_zones : s.raiseStepNumber.zones = s.zones := rfl
@[simp] theorem raiseStepNumber_exposure : s.raiseStepNumber.exposure = s.exposure := rfl
@[simp] theorem raiseStepNumber_exitQueue : s.raiseStepNumber.exitQueue = s.exitQueue := rfl
@[simp] theorem raiseStepNumber_authority : s.raiseStepNumber.authority = s.authority := rfl
@[simp] theorem raiseStepNumber_router : s.raiseStepNumber.router = s.router := rfl
@[simp] theorem raiseStepNumber_links : s.raiseStepNumber.links = s.links := rfl
@[simp] theorem raiseStepNumber_pending : s.raiseStepNumber.pending = s.pending := rfl

/-! ## shift -/

@[simp] theorem shift_exposure : s.shift.1.exposure = s.exposure := by
  unfold State.shift; simp
@[simp] theorem shift_router : s.shift.1.router = s.router := by
  unfold State.shift; simp
@[simp] theorem shift_links : s.shift.1.links = s.links := by
  unfold State.shift; simp
@[simp] theorem shift_pending : s.shift.1.pending = s.pending := by
  unfold State.shift; simp

/-! ## endSettling -/

@[simp] theorem endSettling_zones : s.endSettling.1.zones = s.zones := by
  unfold State.endSettling; split <;> simp
@[simp] theorem endSettling_exposure : s.endSettling.1.exposure = s.exposure := by
  unfold State.endSettling; split <;> simp
@[simp] theorem endSettling_exitQueue : s.endSettling.1.exitQueue = s.exitQueue := by
  unfold State.endSettling; split <;> simp
@[simp] theorem endSettling_authority : s.endSettling.1.authority = s.authority := by
  unfold State.endSettling; split <;> simp
@[simp] theorem endSettling_router : s.endSettling.1.router = s.router := by
  unfold State.endSettling; split <;> simp
@[simp] theorem endSettling_links : s.endSettling.1.links = s.links := by
  unfold State.endSettling; split <;> simp
@[simp] theorem endSettling_pending : s.endSettling.1.pending = s.pending := by
  unfold State.endSettling; split <;> simp

/-! ## beginSettling -/

@[simp] theorem beginSettling_zones : s.beginSettling.1.zones = s.zones := by
  unfold State.beginSettling; split <;> simp
@[simp] theorem beginSettling_exposure : s.beginSettling.1.exposure = s.exposure := by
  unfold State.beginSettling; split <;> simp
@[simp] theorem beginSettling_exitQueue : s.beginSettling.1.exitQueue = s.exitQueue := by
  unfold State.beginSettling; split <;> simp
@[simp] theorem beginSettling_authority : s.beginSettling.1.authority = s.authority := by
  unfold State.beginSettling; split <;> simp
@[simp] theorem beginSettling_router : s.beginSettling.1.router = s.router := by
  unfold State.beginSettling; split <;> simp
@[simp] theorem beginSettling_links : s.beginSettling.1.links = s.links := by
  unfold State.beginSettling; split <;> simp
@[simp] theorem beginSettling_pending : s.beginSettling.1.pending = s.pending := by
  unfold State.beginSettling; split <;> simp

/-! ## finishShift -/

@[simp] theorem finishShift_zones : s.finishShift.1.zones = s.zones := by
  unfold State.finishShift; split <;> simp
@[simp] theorem finishShift_exposure : s.finishShift.1.exposure = s.exposure := by
  unfold State.finishShift; split <;> simp
@[simp] theorem finishShift_exitQueue : s.finishShift.1.exitQueue = s.exitQueue := by
  unfold State.finishShift; split <;> simp
@[simp] theorem finishShift_authority : s.finishShift.1.authority = s.authority := by
  unfold State.finishShift; split <;> simp
@[simp] theorem finishShift_router : s.finishShift.1.router = s.router := by
  unfold State.finishShift; split <;> simp
@[simp] theorem finishShift_links : s.finishShift.1.links = s.links := by
  unfold State.finishShift; split <;> simp
@[simp] theorem finishShift_pending : s.finishShift.1.pending = s.pending := by
  unfold State.finishShift; split <;> simp

/-! ## normalShift -/

@[simp] theorem normalShift_exposure : s.normalShift.1.exposure = s.exposure := by
  unfold State.normalShift andThen; simp
@[simp] theorem normalShift_router : s.normalShift.1.router = s.router := by
  unfold State.normalShift andThen; simp
@[simp] theorem normalShift_links : s.normalShift.1.links = s.links := by
  unfold State.normalShift andThen; simp
@[simp] theorem normalShift_pending : s.normalShift.1.pending = s.pending := by
  unfold State.normalShift andThen; simp

/-! ## markLate -/

@[simp] theorem markLate_admission : s.markLate.admission = s.admission := rfl
@[simp] theorem markLate_track : s.markLate.track = s.track := rfl
@[simp] theorem markLate_zones : s.markLate.zones = s.zones := rfl
@[simp] theorem markLate_exposure : s.markLate.exposure = s.exposure := rfl
@[simp] theorem markLate_exitQueue : s.markLate.exitQueue = s.exitQueue := rfl
@[simp] theorem markLate_authority : s.markLate.authority = s.authority := rfl
@[simp] theorem markLate_router : s.markLate.router = s.router := rfl
@[simp] theorem markLate_links : s.markLate.links = s.links := rfl
@[simp] theorem markLate_pending : s.markLate.pending = s.pending := rfl

/-! ## completeSuspended -/

@[simp] theorem completeSuspended_exposure : s.completeSuspended.1.exposure = s.exposure := by
  unfold State.completeSuspended; simp
@[simp] theorem completeSuspended_router : s.completeSuspended.1.router = s.router := by
  unfold State.completeSuspended; simp
@[simp] theorem completeSuspended_links : s.completeSuspended.1.links = s.links := by
  unfold State.completeSuspended; simp
@[simp] theorem completeSuspended_pending : s.completeSuspended.1.pending = s.pending := by
  unfold State.completeSuspended; simp

/-! ## abandonSuspended -/

@[simp] theorem abandonSuspended_zones : s.abandonSuspended.zones = s.zones := by
  unfold State.abandonSuspended; split <;> rfl
@[simp] theorem abandonSuspended_exposure : s.abandonSuspended.exposure = s.exposure := by
  unfold State.abandonSuspended; split <;> rfl
@[simp] theorem abandonSuspended_exitQueue : s.abandonSuspended.exitQueue = s.exitQueue := by
  unfold State.abandonSuspended; split <;> rfl
@[simp] theorem abandonSuspended_authority : s.abandonSuspended.authority = s.authority := by
  unfold State.abandonSuspended; split <;> rfl
@[simp] theorem abandonSuspended_router : s.abandonSuspended.router = s.router := by
  unfold State.abandonSuspended; split <;> rfl
@[simp] theorem abandonSuspended_links : s.abandonSuspended.links = s.links := by
  unfold State.abandonSuspended; split <;> rfl
@[simp] theorem abandonSuspended_pending : s.abandonSuspended.pending = s.pending := by
  unfold State.abandonSuspended; split <;> rfl

/-! ## advanceArrives -/

@[simp] theorem advanceArrives_exposure : s.advanceArrives.1.exposure = s.exposure := by
  unfold State.advanceArrives; split <;> simp
@[simp] theorem advanceArrives_router : s.advanceArrives.1.router = s.router := by
  unfold State.advanceArrives; split <;> simp
@[simp] theorem advanceArrives_links : s.advanceArrives.1.links = s.links := by
  unfold State.advanceArrives; split <;> simp
@[simp] theorem advanceArrives_pending : s.advanceArrives.1.pending = s.pending := by
  unfold State.advanceArrives; split <;> simp

/-! ## cadenceEffect -/

@[simp] theorem cadenceEffect_zones : s.cadenceEffect.1.zones = s.zones := by
  unfold State.cadenceEffect; split <;> simp
@[simp] theorem cadenceEffect_exposure : s.cadenceEffect.1.exposure = s.exposure := by
  unfold State.cadenceEffect; split <;> simp
@[simp] theorem cadenceEffect_exitQueue : s.cadenceEffect.1.exitQueue = s.exitQueue := by
  unfold State.cadenceEffect; split <;> simp
@[simp] theorem cadenceEffect_authority : s.cadenceEffect.1.authority = s.authority := by
  unfold State.cadenceEffect; split <;> simp
@[simp] theorem cadenceEffect_router : s.cadenceEffect.1.router = s.router := by
  unfold State.cadenceEffect; split <;> simp
@[simp] theorem cadenceEffect_links : s.cadenceEffect.1.links = s.links := by
  unfold State.cadenceEffect; split <;> simp
@[simp] theorem cadenceEffect_pending : s.cadenceEffect.1.pending = s.pending := by
  unfold State.cadenceEffect; split <;> simp

/-! ## confirmHead -/

@[simp] theorem confirmHead_zones (id : Nat) : (s.confirmHead id).1.zones = s.zones := by
  unfold State.confirmHead; dsimp only; split <;> simp
@[simp] theorem confirmHead_exposure (id : Nat) : (s.confirmHead id).1.exposure = s.exposure := by
  unfold State.confirmHead; dsimp only; split <;> simp
@[simp] theorem confirmHead_authority (id : Nat) :
    (s.confirmHead id).1.authority = s.authority := by
  unfold State.confirmHead; dsimp only; split <;> simp
@[simp] theorem confirmHead_router (id : Nat) : (s.confirmHead id).1.router = s.router := by
  unfold State.confirmHead; dsimp only; split <;> simp
@[simp] theorem confirmHead_links (id : Nat) : (s.confirmHead id).1.links = s.links := by
  unfold State.confirmHead; dsimp only; split <;> simp
@[simp] theorem confirmHead_pending (id : Nat) : (s.confirmHead id).1.pending = s.pending := by
  unfold State.confirmHead; dsimp only; split <;> simp

/-! ## trimSetpoint -/

@[simp] theorem trimSetpoint_registry (i : Fin 16) (z : Zone) (t h : Nat) :
    (s.trimSetpoint i z t h).registry = s.registry := rfl
@[simp] theorem trimSetpoint_admission (i : Fin 16) (z : Zone) (t h : Nat) :
    (s.trimSetpoint i z t h).admission = s.admission := rfl
@[simp] theorem trimSetpoint_track (i : Fin 16) (z : Zone) (t h : Nat) :
    (s.trimSetpoint i z t h).track = s.track := rfl
@[simp] theorem trimSetpoint_zones (i : Fin 16) (z : Zone) (t h : Nat) :
    (s.trimSetpoint i z t h).zones = s.zones := rfl
@[simp] theorem trimSetpoint_exposure (i : Fin 16) (z : Zone) (t h : Nat) :
    (s.trimSetpoint i z t h).exposure = s.exposure := rfl
@[simp] theorem trimSetpoint_exitQueue (i : Fin 16) (z : Zone) (t h : Nat) :
    (s.trimSetpoint i z t h).exitQueue = s.exitQueue := rfl
@[simp] theorem trimSetpoint_router (i : Fin 16) (z : Zone) (t h : Nat) :
    (s.trimSetpoint i z t h).router = s.router := rfl
@[simp] theorem trimSetpoint_links (i : Fin 16) (z : Zone) (t h : Nat) :
    (s.trimSetpoint i z t h).links = s.links := rfl
@[simp] theorem trimSetpoint_pending (i : Fin 16) (z : Zone) (t h : Nat) :
    (s.trimSetpoint i z t h).pending = s.pending := rfl

/-! ## writeFormat -/

@[simp] theorem writeFormat_registry (i : Fin 16) (n : Nat) (e : Option FormatEntry) :
    (s.writeFormat i n e).registry = s.registry := rfl
@[simp] theorem writeFormat_admission (i : Fin 16) (n : Nat) (e : Option FormatEntry) :
    (s.writeFormat i n e).admission = s.admission := rfl
@[simp] theorem writeFormat_track (i : Fin 16) (n : Nat) (e : Option FormatEntry) :
    (s.writeFormat i n e).track = s.track := rfl
@[simp] theorem writeFormat_exposure (i : Fin 16) (n : Nat) (e : Option FormatEntry) :
    (s.writeFormat i n e).exposure = s.exposure := rfl
@[simp] theorem writeFormat_exitQueue (i : Fin 16) (n : Nat) (e : Option FormatEntry) :
    (s.writeFormat i n e).exitQueue = s.exitQueue := rfl
@[simp] theorem writeFormat_router (i : Fin 16) (n : Nat) (e : Option FormatEntry) :
    (s.writeFormat i n e).router = s.router := rfl
@[simp] theorem writeFormat_links (i : Fin 16) (n : Nat) (e : Option FormatEntry) :
    (s.writeFormat i n e).links = s.links := rfl
@[simp] theorem writeFormat_pending (i : Fin 16) (n : Nat) (e : Option FormatEntry) :
    (s.writeFormat i n e).pending = s.pending := rfl

/-! ## writeInterval -/

@[simp] theorem writeInterval_registry (v : Nat) (k : Interval) :
    (s.writeInterval v k).registry = s.registry := by
  cases k <;> rfl
@[simp] theorem writeInterval_admission (v : Nat) (k : Interval) :
    (s.writeInterval v k).admission = s.admission := by
  cases k <;> rfl
@[simp] theorem writeInterval_exitQueue (v : Nat) (k : Interval) :
    (s.writeInterval v k).exitQueue = s.exitQueue := by
  cases k <;> rfl
@[simp] theorem writeInterval_authority (v : Nat) (k : Interval) :
    (s.writeInterval v k).authority = s.authority := by
  cases k <;> rfl
@[simp] theorem writeInterval_router (v : Nat) (k : Interval) :
    (s.writeInterval v k).router = s.router := by
  cases k <;> rfl
@[simp] theorem writeInterval_links (v : Nat) (k : Interval) :
    (s.writeInterval v k).links = s.links := by
  cases k <;> rfl
@[simp] theorem writeInterval_pending (v : Nat) (k : Interval) :
    (s.writeInterval v k).pending = s.pending := by
  cases k <;> rfl

/-! ## tickExposure -/

@[simp] theorem tickExposure_admission : s.tickExposure.admission = s.admission := by
  unfold State.tickExposure; simp
@[simp] theorem tickExposure_exitQueue : s.tickExposure.exitQueue = s.exitQueue := by
  unfold State.tickExposure; simp
@[simp] theorem tickExposure_authority : s.tickExposure.authority = s.authority := by
  unfold State.tickExposure; simp
@[simp] theorem tickExposure_links : s.tickExposure.links = s.links := by
  unfold State.tickExposure; simp
@[simp] theorem tickExposure_pending : s.tickExposure.pending = s.pending := by
  unfold State.tickExposure; simp

end Sys2Proof.Machine
end

