-- ==== Sys2Proof/Laws/Links.lean ====
section
/-! SUPPORT. What the taking of a frame can do: a request on a link that is ready is answered, and the
answer in the form in which the statements write it. -/

namespace Sys2Proof.Machine

variable (s : State) (link : Link)

/-! ## The attention of a response -/

/-- The attention looks at the class of the link, the notes and the zone channels alone. -/
theorem attention_congr {s t : State} {link : Link}
    (class_ : t.links[link].class_ = s.links[link].class_)
    (notes : t.router.notes = s.router.notes)
    (channels : t.zones.channels = s.zones.channels) : t.attention link = s.attention link := by
  unfold State.attention; rw [class_, notes, channels]

theorem endFrame_class (l : Link) :
    (s.endFrame link).links[l].class_ = s.links[l].class_ := by
  by_cases h : l = link
  · subst h; simp
  · have : link.val ≠ l.val := fun e => h (Fin.ext e.symm)
    simp [this]

@[simp] theorem attention_endFrame (l : Link) :
    (s.endFrame link).attention l = s.attention l :=
  attention_congr (endFrame_class s link l) rfl rfl

/-! ## Taking a frame -/

theorem arrival_of_ready {s : State} {link : Link} (h : s.ready link) :
    s.links[link].arrival = .taken := by
  unfold LinkChannel.arrival; rw [h.1, h.2.1]; rfl

theorem limitExpiry_of_ready {s : State} {link : Link} (h : s.ready link) :
    s.limitExpiry link = s := by
  unfold State.limitExpiry; rw [h.2.2]; rfl

/-- The channel of a link after an error is latched on it. -/
theorem latchError_channel (e : LinkError) :
    (s.latchError link e).links[link] = { s.links[link] with lastError := .link e } := by
  unfold State.latchError
  dsimp only
  split <;> simp

/-- The channel of a link after a frame is discarded on it. -/
theorem discardFrame_channel (e : LinkError) :
    (s.discardFrame link e).links[link] =
      { s.links[link] with receiver := .hunt, lastError := .link e } := by
  unfold State.discardFrame
  rw [latchError_channel]
  simp

/-- The channel of a link after its inter-byte limit. -/
theorem limitExpiry_channel :
    (s.limitExpiry link).links[link] =
      if s.links[link].limitDue then
        { s.links[link] with receiver := .hunt, lastError := .link .truncated }
      else s.links[link] := by
  unfold State.limitExpiry
  split
  · exact discardFrame_channel s link .truncated
  · rfl

@[simp] theorem limitExpiry_limitExpiry :
    (s.limitExpiry link).limitExpiry link = s.limitExpiry link := by
  have h : (s.limitExpiry link).links[link].limitDue = false := by
    rw [limitExpiry_channel]
    split
    · rfl
    · simp_all
  rw [State.limitExpiry.eq_def (s.limitExpiry link), h]
  rfl

theorem limitExpiry_arrival :
    (s.limitExpiry link).links[link].arrival = s.links[link].arrival := by
  rw [limitExpiry_channel]
  split <;> rfl

theorem limitExpiry_class :
    (s.limitExpiry link).links[link].class_ = s.links[link].class_ := by
  rw [limitExpiry_channel]
  split <;> rfl

theorem limitExpiry_quiet :
    (s.limitExpiry link).links[link].quiet = s.links[link].quiet := by
  rw [limitExpiry_channel]
  split <;> rfl

/-- A request that is taken finds the part as the inter-byte limit leaves it (R187). -/
theorem serve_limitExpiry {may : StationClass → Bool} {body : State → Reply}
    (h : s.links[link].arrival = .taken) :
    (s.limitExpiry link).serve link may body = s.serve link may body := by
  simp only [State.serve, limitExpiry_arrival, limitExpiry_class, h, limitExpiry_limitExpiry]

/-- The same for CLIMATE. -/
theorem serveClimate_limitExpiry {r : Report} (h : s.links[link].arrival = .taken) :
    (s.limitExpiry link).serveClimate link r = s.serveClimate link r := by
  simp only [State.serveClimate, limitExpiry_arrival, limitExpiry_class, limitExpiry_quiet,
    limitExpiry_limitExpiry, serve_limitExpiry s link h]

theorem arrival_of_spacing {c : LinkChannel} (h : c.spacing = true) : c.arrival = .lost := by
  simp [LinkChannel.arrival, h]

theorem arrival_of_busy {c : LinkChannel} (h : c.spacing = false) (b : c.transmitter ≠ .idle) :
    c.arrival = .contended := by
  unfold LinkChannel.arrival; rw [h]; cases hc : c.transmitter <;> simp_all

/-- Answering after the end of the frame is the answer of the statements. -/
theorem respond_endFrame {t : State} (a : Answer) (j : Option StreamJob)
    (h : t.links = (s.endFrame link).links) :
    t.respond link a j = ({ t with links := s.links }).answered link a.status a.payload j := by
  obtain ⟨r, ad, tr, z, ex, eq, au, ro, ln, pe⟩ := t
  simp only at h
  subst h
  simp [State.respond, State.answered, State.changeLink, State.responseFrame, State.endFrame,
    Vector.set_set, State.attention]

/-- A request taken from a class that may issue it: the owning block's reply is answered and the
events that follow the answer are routed. -/
theorem serve_ready {may : StationClass → Bool} {body : State → Reply} (h : s.ready link)
    (m : may s.links[link].class_ = true) :
    s.serve link may body =
      ((body (s.endFrame link)).state.respond link (body (s.endFrame link)).answer
        (body (s.endFrame link)).stream).routeAll (body (s.endFrame link)).after := by
  simp only [State.serve, arrival_of_ready h, limitExpiry_of_ready h, m, if_true]

/-- A request taken from a class that may not issue it is refused CLASS (R175). -/
theorem serve_class {may : StationClass → Bool} {body : State → Reply} (h : s.ready link)
    (m : may s.links[link].class_ = false) :
    s.serve link may body = s.answered link (.refused .class_) := by
  simp only [State.serve, arrival_of_ready h, limitExpiry_of_ready h, m]
  exact respond_endFrame s link _ _ rfl

/-- A request that the owning block answers with no events after the answer; `t` is the part after
it but for the link that takes the answer. -/
theorem serve_reply {may : StationClass → Bool} {body : State → Reply} {t : State} {a : Answer}
    {j : Option StreamJob} (h : s.ready link) (m : may s.links[link].class_ = true)
    (l : t.links = s.links)
    (b : body (s.endFrame link) =
      { state := { t with links := (s.endFrame link).links }, answer := a, stream := j }) :
    s.serve link may body = t.answered link a.status a.payload j := by
  rw [serve_ready s link h m, b]
  refine (respond_endFrame s link (t := { t with links := (s.endFrame link).links }) a j rfl).trans ?_
  cases t; cases l; rfl

/-- A request that the owning block answers with no events after the answer; `t` is the part after
it, before the end of the frame and the answer on the link. -/
theorem serve_endFrame {may : StationClass → Bool} {body : State → Reply} {t : State} {a : Answer}
    {j : Option StreamJob} (h : s.ready link) (m : may s.links[link].class_ = true)
    (b : body (s.endFrame link) = { state := t.endFrame link, answer := a, stream := j }) :
    s.serve link may body = t.answered link a.status a.payload j := by
  rw [serve_ready s link h m, b]
  exact respond_endFrame t link a j rfl

/-- A refused request changes nothing but the link it is answered on. -/
theorem serve_refuse {may : StationClass → Bool} {body : State → Reply} {r : Reason}
    (h : s.ready link) (m : may s.links[link].class_ = true)
    (b : body (s.endFrame link) = refuse (s.endFrame link) r) :
    s.serve link may body = s.answered link (.refused r) :=
  serve_reply s link (a := .refused r) (j := none) h m rfl b

/-- A request accepted with the part `t`. -/
theorem serve_accept {may : StationClass → Bool} {body : State → Reply} {t : State}
    (h : s.ready link) (m : may s.links[link].class_ = true) (l : t.links = s.links)
    (b : body (s.endFrame link) = accept { t with links := (s.endFrame link).links }) :
    s.serve link may body = t.answered link .accepted :=
  serve_reply s link (a := .accepted) (j := none) h m l b

/-- A request answered DATA from the part `t`. -/
theorem serve_data {may : StationClass → Bool} {body : State → Reply} {t : State} {p : List Byte}
    {j : Option StreamJob} (h : s.ready link) (m : may s.links[link].class_ = true)
    (l : t.links = s.links)
    (b : body (s.endFrame link) =
      { state := { t with links := (s.endFrame link).links }, answer := .data p, stream := j }) :
    s.serve link may body = t.answered link .data p j :=
  serve_reply s link (a := .data p) h m l b

/-! ## What the taking of a frame keeps -/

section Keeps
variable {P : State → Prop}
  (channel : ∀ u (link : Link) (f : LinkChannel → LinkChannel), (∀ c, (f c).class_ = c.class_) →
    P u → P (u.changeLink link f))
  (events : ∀ u c, P u → P (u.route c))
include channel events

/-- A latched error keeps what a change of a channel and an event keep. -/
theorem latchError_keeps {s : State} (link : Link) (e : LinkError) (h : P s) :
    P (s.latchError link e) := by
  have latched := channel s link (fun c => { c with lastError := .link e }) (fun _ => rfl) h
  unfold State.latchError
  dsimp only
  split
  · exact latched
  · exact events _ _ latched

/-- A discarded frame keeps what a change of a channel and an event keep. -/
theorem discardFrame_keeps {s : State} (link : Link) (e : LinkError) (h : P s) :
    P (s.discardFrame link e) :=
  latchError_keeps channel events link e (channel _ _ _ (fun _ => rfl) h)

/-- So does the inter-byte limit. -/
theorem limitExpiry_keeps {s : State} (link : Link) (h : P s) : P (s.limitExpiry link) := by
  unfold State.limitExpiry
  split
  · exact discardFrame_keeps channel events link .truncated h
  · exact h

/-- So do the inter-byte limits of several links. -/
theorem limitExpiries_keep (links : List Link) {s : State} (h : P s) :
    P (links.foldl State.limitExpiry s) := by
  induction links generalizing s with
  | nil => exact h
  | cons link _ ih => exact ih (limitExpiry_keeps channel events link h)

/-- So does a mark received while the link transmits. -/
theorem discardMark_keeps {s : State} (link : Link) (h : P s) : P (s.discardMark link) := by
  unfold State.discardMark
  split
  · exact h
  · exact latchError_keeps channel events link .contention (channel _ _ _ (fun _ => rfl) h)

/-- A property that changes of a link channel without its class, routed events and the owning block's
own change keep is kept by a request, whatever becomes of its frame. -/
theorem serve_keeps (link : Link) {s : State} {may : StationClass → Bool} {body : State → Reply}
    (own : ∀ u, P u → P (body u).state) (h : P s) : P (s.serve link may body) := by
  have all : ∀ cs u, P u → P (u.routeAll cs) := by
    intro cs
    induction cs with
    | nil => exact fun _ hu => hu
    | cons c cs ih => exact fun u hu => ih _ (events u c hu)
  have ended : P ((s.limitExpiry link).endFrame link) :=
    channel _ _ _ (fun _ => rfl) (limitExpiry_keeps channel events link h)
  unfold State.serve
  split
  · exact h
  · exact discardMark_keeps channel events link h
  · dsimp only
    split
    · exact all _ _ (channel _ _ _ (fun _ => rfl) (own _ ended))
    · exact channel _ _ _ (fun _ => rfl) ended

/-- The same for CLIMATE, which a quiet link takes without an answer. -/
theorem serveClimate_keeps (link : Link) {s : State} {r : Report}
    (own : ∀ u, P u → P (onZone link (climateReply r) u).state) (h : P s) :
    P (s.serveClimate link r) := by
  have ended : P ((s.limitExpiry link).endFrame link) :=
    channel _ _ _ (fun _ => rfl) (limitExpiry_keeps channel events link h)
  unfold State.serveClimate
  split
  · unfold State.quietReport
    dsimp only
    split
    · exact channel _ _ _ (fun _ => rfl) ended
    · exact channel _ _ _ (fun _ => rfl) (own _ ended)
  · exact serve_keeps channel events link own h

end Keeps

/-- The class of a link after a change of a channel that keeps it. -/
theorem changeLink_class {f : LinkChannel → LinkChannel} (hf : ∀ c, (f c).class_ = c.class_)
    (l : Link) : (s.changeLink link f).links[l].class_ = s.links[l].class_ := by
  by_cases h : l = link
  · subst h; simp [hf]
  · have : link.val ≠ l.val := fun e => h (Fin.ext e.symm)
    simp [this]

/-! ## The order of the end of a frame and other changes -/

theorem joinNotes_endFrame (c : EventClass) :
    (s.endFrame link).joinNotes c = (s.joinNotes c).endFrame link := by
  unfold State.joinNotes
  have : ∀ l : Link, (s.endFrame link).links[l].class_ = s.links[l].class_ :=
    endFrame_class s link
  simp only [this]
  rfl

theorem route_endFrame (c : EventClass) :
    (s.endFrame link).route c = (s.route c).endFrame link := by
  unfold State.route
  cases h : s.router.routes[c.index] <;> simp only [endFrame_router, h]
  · exact joinNotes_endFrame s link c
  · rw [joinNotes_endFrame]; rfl
  · rw [joinNotes_endFrame]; rfl

theorem routeAll_endFrame (cs : List EventClass) :
    (s.endFrame link).routeAll cs = (s.routeAll cs).endFrame link := by
  induction cs generalizing s with
  | nil => rfl
  | cons c cs ih => rw [routeAll_cons, routeAll_cons, route_endFrame, ih]

theorem enterAdvancing_endFrame :
    (s.endFrame link).enterAdvancing =
      ((s.enterAdvancing.1).endFrame link, s.enterAdvancing.2) := by
  unfold State.enterAdvancing State.bindChoice
  have : (s.endFrame link).boardingChoice = s.boardingChoice := rfl
  rw [this]
  cases s.boardingChoice <;> rfl

theorem changeLink_endFrame {f : LinkChannel → LinkChannel}
    (hf : ∀ c : LinkChannel, f { c with receiver := .hunt } = { f c with receiver := .hunt }) :
    (s.endFrame link).changeLink link f = (s.changeLink link f).endFrame link := by
  unfold State.endFrame State.changeLink
  simp [Vector.set_set, hf]

/-! ## The first reason of a list of checks -/

@[simp] theorem firstReason_nil : firstReason [] = none := rfl

@[simp] theorem firstReason_eq_none (b : Bool) (r : Reason) (rest : List (Bool × Reason)) :
    firstReason ((b, r) :: rest) = none ↔ b = false ∧ firstReason rest = none := by
  cases b <;> simp [firstReason]

@[simp] theorem firstReason_eq_some (b : Bool) (r q : Reason) (rest : List (Bool × Reason)) :
    firstReason ((b, r) :: rest) = some q ↔
      (b = true ∧ r = q) ∨ (b = false ∧ firstReason rest = some q) := by
  cases b <;> simp [firstReason]

/-! ## The look-ups of the part do not see the end of a frame -/

@[simp] theorem rod_endFrame (id : Nat) : (s.endFrame link).rod id = s.rod id := rfl
@[simp] theorem format_endFrame (n : Nat) : (s.endFrame link).format n = s.format n := rfl
@[simp] theorem formatFields_endFrame (n : Nat) :
    (s.endFrame link).formatFields n = s.formatFields n := rfl
@[simp] theorem rodFormat_endFrame (id : Nat) : (s.endFrame link).rodFormat id = s.rodFormat id := rfl
@[simp] theorem governingFormat_endFrame (b l : Nat) :
    (s.endFrame link).governingFormat b l = s.governingFormat b l := rfl
@[simp] theorem holds_endFrame (l : Link) (k : ClaimKind) :
    (s.endFrame link).holds l k = s.holds l k := rfl
@[simp] theorem editRefusal_endFrame (l : Link) :
    (s.endFrame link).editRefusal l = s.editRefusal l := rfl

end Sys2Proof.Machine
end

