-- ==== Sys2Proof/Laws/Keeps.lean ====
section
/-! SUPPORT. What a command can do to the part, said once: a request is one `serve` of one reply, so
that a property of every command comes down to the replies and the twelve line and timer events. -/

namespace Sys2Proof.Machine

/-- A request is the taking of a frame with its reply; CLIMATE is, unless the link is quiet. -/
theorem exec_of_replyOf {c : Instr} {link : Link} {may : StationClass → Bool}
    {body : State → Reply} (h : replyOf c = some (link, may, body)) (s : State) :
    exec c s = .next (s.serve link may body) ∨
      ∃ r, body = onZone link (climateReply r) ∧ exec c s = .next (s.serveClimate link r) := by
  cases c <;> simp only [replyOf, reduceCtorEq, Option.some.injEq, Prod.mk.injEq] at h <;>
    obtain ⟨rfl, rfl, rfl⟩ := h <;>
    first
    | exact .inl rfl
    | exact .inr ⟨_, rfl, rfl⟩

/-- A complete frame that is dispatched is run as its request (R175). -/
theorem exec_eq_dispatch {c : Instr} (h : replyOf c ≠ none) (s : State) :
    exec c s = .next (s.dispatch c) := by
  cases c <;> first | exact absurd rfl h | rfl

/-- A request that is taken finds the part as the inter-byte limit of its link leaves it (R187). -/
theorem exec_limitExpiry {c : Instr} {link : Link} {may : StationClass → Bool}
    {body : State → Reply} (h : replyOf c = some (link, may, body)) {s : State}
    (taken : s.links[link].arrival = .taken) : exec c (s.limitExpiry link) = exec c s := by
  cases c <;> simp only [replyOf, reduceCtorEq, Option.some.injEq, Prod.mk.injEq] at h <;>
    obtain ⟨rfl, rfl, rfl⟩ := h <;>
    first
    | exact congrArg Host.Outcome.next (serve_limitExpiry s _ taken)
    | exact congrArg Host.Outcome.next (serveClimate_limitExpiry s _ taken)

/-- The twelve commands that are no frame of a link: the lines, the timers and the break. -/
def lineCommand : Instr → Bool
  | .lineBreak _ => true
  | .deviceReset _ => true
  | .holdLineRise => true
  | .holdLineFall => true
  | .advanceDone => true
  | .advanceDoneFall => true
  | .cadenceExpiry => true
  | .settleExpiry => true
  | .advanceLimitExpiry => true
  | .exitWaitExpiry => true
  | .exposureTick => true
  | .baseTick => true
  | _ => false

/-- The seven commands of a link that carry no request. -/
theorem linkEvent_cases {c : Instr} (h : replyOf c = none) (k : lineCommand c = false) :
    (∃ l, c = .streamRecord l) ∨ (∃ l, c = .transmitComplete l) ∨
      (∃ l e, c = .frameDiscarded l e) ∨ (∃ l, c = .truncated l) ∨ (∃ l, c = .contention l) ∨
      (∃ l, c = .openingMarkReceived l) ∨ (∃ l, c = .lineReturnedToMarking l) := by
  cases c <;> first | (cases h; done) | (cases k; done) | simp

/-- A base tick takes the expiries left due and then counts (R25; log entry 4). -/
theorem exec_baseTick (s : State) : exec .baseTick s = .next s.takeOverdue.countTick := rfl

/-- What a 7Eh can do: nothing, or CONTENTION; or, after the inter-byte limit, the start of a frame or
the collection of a byte, the end of a frame with an error, or the request of a frame that it
completes (R177, R178). -/
theorem openingMark_cases {s t : State} {link : Link}
    (e : exec (.openingMarkReceived link) s = .next t) :
    t = s ∨ t = s.discardMark link ∨
      (∃ f : LinkChannel → LinkChannel, (∀ c, (f c).class_ = c.class_) ∧
        t = (s.limitExpiry link).changeLink link f) ∨
      (∃ error, t = (s.limitExpiry link).discardFrame link error) ∨
      ∃ c, replyOf c ≠ none ∧ exec c (s.limitExpiry link) = .next t := by
  replace e : execOpeningMarkReceived link s = .next t := e
  unfold execOpeningMarkReceived at e
  split at e
  · exact .inl (Host.Outcome.next.inj e).symm
  · exact .inr (.inl (Host.Outcome.next.inj e).symm)
  · have e := Host.Outcome.next.inj e
    unfold State.receiveMark State.receiveByte at e
    dsimp only at e
    repeat' split at e
    · exact .inr (.inr (.inl ⟨_, by exact fun _ => rfl, e.symm⟩))
    · exact .inr (.inr (.inr (.inl ⟨_, e.symm⟩)))
    · rename_i c h
      cases hr : replyOf c with
      | none =>
        have : (s.limitExpiry link).dispatch c = s.limitExpiry link := by
          unfold State.dispatch; rw [hr]
        rw [this] at e
        refine .inr (.inr (.inl ⟨id, fun _ => rfl, ?_⟩))
        rw [← e]; simp [State.changeLink]
      | some x =>
        have ne : replyOf c ≠ none := by rw [hr]; simp
        exact .inr (.inr (.inr (.inr ⟨c, ne, by rw [exec_eq_dispatch ne, e]⟩)))
    · exact .inr (.inr (.inl ⟨_, by exact fun _ => rfl, e.symm⟩))

section Keeps
variable {P : State → Prop}
  (channel : ∀ u (link : Link) (f : LinkChannel → LinkChannel), (∀ c, (f c).class_ = c.class_) →
    P u → P (u.changeLink link f))
  (events : ∀ u c, P u → P (u.route c))
include channel events

/-- A property that every step keeps: it is enough that changes of a link channel without its class,
routed events, the replies of the owning blocks, and the line and timer events keep it. -/
theorem exec_keeps
    (own : ∀ c link may body, replyOf c = some (link, may, body) → ∀ u, P u → P (body u).state)
    (line : ∀ c, lineCommand c = true → ∀ s t, P s → exec c s = .next t → P t)
    (c : Instr) (s t : State) (h : P s) (e : exec c s = .next t) : P t := by
  have request : ∀ c, replyOf c ≠ none → ∀ s t, P s → exec c s = .next t → P t := by
    intro c ne s t h e
    obtain ⟨x, hr⟩ := Option.ne_none_iff_exists'.1 ne
    obtain ⟨link, may, body⟩ := x
    rcases exec_of_replyOf hr s with k | ⟨r, hb, k⟩
    · rw [k] at e
      cases e
      exact serve_keeps channel events link (own c _ _ _ hr) h
    · rw [k] at e
      cases e
      subst hb
      exact serveClimate_keeps channel events link (own c _ _ _ hr) h
  cases hc : lineCommand c with
  | true => exact line c hc s t h e
  | false =>
    cases hr : replyOf c with
    | some x => exact request c (by rw [hr]; simp) s t h e
    | none =>
      have put : ∀ link (f : LinkChannel → LinkChannel), (∀ c, (f c).class_ = c.class_) →
          P (s.changeLink link f) := fun link f hf => channel s link f hf h
      rcases linkEvent_cases hr hc with ⟨link, rfl⟩ | ⟨link, rfl⟩ | ⟨link, error, rfl⟩ | ⟨link, rfl⟩ |
          ⟨link, rfl⟩ | ⟨link, rfl⟩ | ⟨link, rfl⟩
      · replace e : execStreamRecord link s = .next t := e
        unfold execStreamRecord State.streamTurn State.endStream at e
        repeat' split at e
        all_goals cases e; first | exact h | exact put _ _ fun _ => rfl
      · replace e : execTransmitComplete link s = .next t := e
        unfold execTransmitComplete State.beginStream State.endStream at e
        repeat' split at e
        all_goals cases e; first | exact h | exact put _ _ fun _ => rfl
      · replace e : execFrameDiscarded link error s = .next t := e
        unfold execFrameDiscarded at e
        repeat' split at e
        all_goals cases e
        · exact discardFrame_keeps channel events link error h
        · exact limitExpiry_keeps channel events link h
        · exact h
      · cases e
        exact limitExpiry_keeps channel events link h
      · replace e : execContention link s = .next t := e
        unfold execContention at e
        repeat' split at e
        all_goals cases e
        · exact discardMark_keeps channel events link h
        · exact h
        · exact h
      · have cut := limitExpiry_keeps channel events link h
        rcases openingMark_cases e with rfl | rfl | ⟨f, hf, rfl⟩ | ⟨error, rfl⟩ | ⟨c, ne, k⟩
        · exact h
        · exact discardMark_keeps channel events link h
        · exact channel _ _ _ hf cut
        · exact discardFrame_keeps channel events link error cut
        · exact request c ne _ _ cut k
      · replace e : execLineReturnedToMarking link s = .next t := e
        cases e
        exact put _ _ fun _ => rfl

end Keeps

end Sys2Proof.Machine
end

