-- ==== Sys2Proof/Laws/Lots.lean ====
section
/-! SUPPORT. What the look-ups of the lot table find, and what the freeing cascade and the chain
resolution do. -/

namespace Sys2Proof.Machine

variable (lots : LotTable)

/-- An entry after a write to one entry. -/
theorem getElem_set_lot (a b : Fin 32) (x : Option Lot) :
    (lots.set a x)[b] = if a = b then x else lots[b] := by
  by_cases h : a = b
  · subst h; simp
  · have : a.val ≠ b.val := fun e => h (Fin.ext e)
    simp [this, h]

theorem getElem_changeLot (a b : Fin 32) (f : Lot → Lot) :
    (changeLot lots a f)[b] = if a = b then lots[b].map f else lots[b] := by
  unfold changeLot; rw [getElem_set_lot]; split
  · next h => subst h; rfl
  · rfl

/-! ## Look-ups -/

theorem carries_iff (n : Nat) (j : Fin 32) :
    (match lots[j] with
      | some l => l.number == n
      | none => false) = true ↔ lots[j].map (·.number) = some n := by
  cases lots[j] <;> simp

/-- The look-up of a lot number that one entry carries. -/
theorem lotIndexOf_of_names {lots : LotTable} {n : Nat} {i : Fin 32} (h : namesLot lots n i) :
    lotIndexOf lots n = some i := by
  unfold lotIndexOf
  rcases hf : List.find? _ _ with _ | j
  · exact absurd ((carries_iff lots n i).2 h.1) (List.find?_eq_none.mp hf i (List.mem_finRange i))
  · have hj := List.find?_some hf
    rw [h.2 j ((carries_iff lots n j).1 hj)]

theorem lotIndexOf_eq_none {lots : LotTable} {n : Nat} :
    lotIndexOf lots n = none ↔ namesNoLot lots n := by
  unfold lotIndexOf
  rw [List.find?_eq_none]
  exact ⟨fun h j e => h j (List.mem_finRange j) ((carries_iff lots n j).2 e),
    fun h j _ e => h j ((carries_iff lots n j).1 e)⟩

/-- The look-up finds an entry that carries the number. -/
theorem lotIndexOf_some {lots : LotTable} {n : Nat} {i : Fin 32} (h : lotIndexOf lots n = some i) :
    lots[i].map (·.number) = some n := by
  unfold lotIndexOf at h
  have hi := List.find?_some h
  exact (carries_iff lots n i).1 hi

theorem openLotIndex_some {lots : LotTable} {i : Fin 32} (h : openLotIndex lots = some i) :
    isOpenLot lots[i] = true := by
  unfold openLotIndex at h
  have hi := List.find?_some h
  exact hi

theorem openLotIndex_eq_none {lots : LotTable} :
    openLotIndex lots = none ↔ ∀ i : Fin 32, isOpenLot lots[i] = false := by
  unfold openLotIndex
  rw [List.find?_eq_none]
  exact ⟨fun h i => by simpa using h i (List.mem_finRange i), fun h i _ => by simpa using h i⟩

/-- The look-up of the OPEN lot where only one entry is OPEN. -/
theorem openLotIndex_of_only {lots : LotTable} {i : Fin 32} (h : isOpenLot lots[i] = true)
    (only : ∀ j : Fin 32, isOpenLot lots[j] = true → j = i) : openLotIndex lots = some i := by
  cases hf : openLotIndex lots with
  | none => rw [openLotIndex_eq_none.1 hf i] at h; cases h
  | some j => rw [only j (openLotIndex_some hf)]

/-- The lowest FREE entry is FREE, and every lower one is not. -/
theorem lowestFree_some {lots : LotTable} {i : Fin 32} :
    lowestFree lots = some i ↔ lots[i] = none ∧ ∀ j : Fin 32, j < i → lots[j].isSome = true := by
  have low : ∀ {k : Fin 32}, lowestFree lots = some k →
      lots[k] = none ∧ ∀ j : Fin 32, j < k → lots[j].isSome = true := by
    intro k h
    unfold lowestFree at h
    refine ⟨by simpa using List.find?_some h, fun j hj => ?_⟩
    rw [List.find?_eq_some_iff_getElem] at h
    obtain ⟨-, m, hm, hk, hlt⟩ := h
    have hmk : m = k.val := by rw [← hk]; simp
    have := hlt j.val (by rw [hmk]; exact hj)
    simpa using this
  refine ⟨low, fun h => ?_⟩
  cases hf : lowestFree lots with
  | none =>
    unfold lowestFree at hf
    have := List.find?_eq_none.mp hf i (List.mem_finRange i)
    rw [h.1] at this; simp at this
  | some k =>
    obtain ⟨k1, k2⟩ := low hf
    rcases lt_trichotomy i k with hlt | rfl | hlt
    · have := k2 i hlt; rw [h.1] at this; cases this
    · rfl
    · have := h.2 k hlt; rw [k1] at this; cases this

theorem lowestFree_eq_none {lots : LotTable} :
    lowestFree lots = none ↔ ∀ i : Fin 32, lots[i].isSome = true := by
  unfold lowestFree
  rw [List.find?_eq_none]
  refine ⟨fun h i => ?_, fun h i _ => ?_⟩
  · have hi := h i (List.mem_finRange i)
    cases hl : lots[i] <;> simp_all
  · have hi := h i
    cases hl : lots[i] <;> simp_all

/-! ## The freeing cascade (R10) -/

/-- How many entries are not FREE. -/
def usedLots : Nat := (Finset.univ.filter fun i : Fin 32 => lots[i].isSome = true).card

theorem usedLots_le : usedLots lots ≤ 32 := by
  unfold usedLots
  exact (Finset.card_filter_le _ _).trans (by simp)

theorem usedLots_changeLot (i : Fin 32) (f : Lot → Lot) :
    usedLots (changeLot lots i f) = usedLots lots := by
  unfold usedLots
  congr 1
  ext j
  simp only [Finset.mem_filter, Finset.mem_univ, true_and]
  rw [getElem_changeLot]
  split <;> simp

theorem usedLots_free {lots : LotTable} {i : Fin 32} (h : lots[i].isSome = true) :
    usedLots (lots.set i none) + 1 = usedLots lots := by
  unfold usedLots
  have e : (Finset.univ.filter fun j : Fin 32 => (lots.set i none)[j].isSome = true) =
      (Finset.univ.filter fun j : Fin 32 => lots[j].isSome = true).erase i := by
    ext j
    simp only [Finset.mem_filter, Finset.mem_univ, true_and, Finset.mem_erase]
    rw [getElem_set_lot]
    by_cases hj : i = j
    · subst hj; simp
    · simp [hj, Ne.symm hj]
  rw [e]
  exact Finset.card_erase_add_one (by simp only [Finset.mem_filter, Finset.mem_univ, true_and]; exact h)

theorem freeCascade_free (n : Nat) {lots : LotTable} {i : Fin 32} (h : lots[i] = none) :
    freeCascade n i lots = lots := by
  cases n
  · rfl
  · simp only [freeCascade]; rw [h]

theorem freeCascade_kept (n : Nat) {lots : LotTable} {i : Fin 32} {l : Lot} (h : lots[i] = some l)
    (k : l.isSpent = false) : freeCascade n i lots = lots := by
  cases n
  · rfl
  · simp only [freeCascade]; rw [h]; simp [k]

theorem freeCascade_last (n : Nat) {lots : LotTable} {i : Fin 32} {l : Lot} (h : lots[i] = some l)
    (k : l.isSpent = true) (f : l.forward = none) :
    freeCascade (n + 1) i lots = lots.set i none := by
  simp only [freeCascade]; rw [h]; simp [k, f]

theorem freeCascade_next (n : Nat) {lots : LotTable} {i f : Fin 32} {l : Lot} (h : lots[i] = some l)
    (k : l.isSpent = true) (hf : l.forward = some f) :
    freeCascade (n + 1) i lots =
      freeCascade n f
        (changeLot (lots.set i none) f fun g => { g with referrers := g.referrers - 1 }) := by
  rw [freeCascade]; rw [h]; simp [k, hf]

/-- A cascade that has as many turns as entries are not FREE has enough: more change nothing. -/
theorem freeCascade_enough (n m : Nat) (lots : LotTable) (i : Fin 32) (hn : usedLots lots ≤ n)
    (hm : usedLots lots ≤ m) : freeCascade n i lots = freeCascade m i lots := by
  induction n generalizing m lots i with
  | zero =>
    have h : lots[i] = none := by
      by_contra hc
      have := usedLots_free (Option.isSome_iff_ne_none.2 hc)
      omega
    rw [freeCascade_free _ h, freeCascade_free _ h]
  | succ n ih =>
    cases h : lots[i] with
    | none => rw [freeCascade_free _ h, freeCascade_free _ h]
    | some l =>
      cases k : l.isSpent with
      | false => rw [freeCascade_kept _ h k, freeCascade_kept _ h k]
      | true =>
        have used := usedLots_free (lots := lots) (i := i) (by simp [h])
        obtain ⟨m, rfl⟩ : ∃ q, m = q + 1 := ⟨m - 1, by omega⟩
        cases f : l.forward with
        | none => rw [freeCascade_last _ h k f, freeCascade_last _ h k f]
        | some f' =>
          rw [freeCascade_next _ h k f, freeCascade_next _ h k f]
          apply ih <;> rw [usedLots_changeLot] <;> omega

/-- What a property needs to hold after freeing: to be kept by each turn of the cascade. -/
theorem freeIfSpent_induct (P : Fin 32 → LotTable → Prop) (Q : LotTable → Prop)
    (free : ∀ i lots, P i lots → lots[i] = none → Q lots)
    (kept : ∀ i lots l, P i lots → lots[i] = some l → l.isSpent = false → Q lots)
    (last : ∀ i lots l, P i lots → lots[i] = some l → l.isSpent = true → l.forward = none →
      Q (lots.set i none))
    (next : ∀ i lots l f, P i lots → lots[i] = some l → l.isSpent = true → l.forward = some f →
      P f (changeLot (lots.set i none) f fun g => { g with referrers := g.referrers - 1 }))
    (i : Fin 32) (lots : LotTable) (h : P i lots) : Q (freeIfSpent lots i) := by
  unfold freeIfSpent
  have enough := usedLots_le lots
  generalize 32 = n at enough
  induction n generalizing i lots with
  | zero =>
    have hi : lots[i] = none := by
      by_contra hc
      have := usedLots_free (Option.isSome_iff_ne_none.2 hc)
      omega
    exact free i lots h hi
  | succ n ih =>
    cases hi : lots[i] with
    | none => rw [freeCascade_free _ hi]; exact free i lots h hi
    | some l =>
      cases k : l.isSpent with
      | false => rw [freeCascade_kept _ hi k]; exact kept i lots l h hi k
      | true =>
        have used := usedLots_free (lots := lots) (i := i) (by simp [hi])
        cases f : l.forward with
        | none => rw [freeCascade_last _ hi k f]; exact last i lots l h hi k f
        | some f' =>
          rw [freeCascade_next _ hi k f]
          exact ih f' _ (next i lots l f' h hi k f) (by rw [usedLots_changeLot]; omega)

end Sys2Proof.Machine
end

