-- ==== Sys2Proof/Laws/Rods.lean ====
section
/-! SUPPORT. The rod table: what a look-up finds after each change of the table, and that the table
keeps one record for an ID in rising order. -/

namespace Sys2Proof.Machine

/-- The order of the rod table, which makes an ID's record the only one. -/
abbrev RodsSorted (rods : List RodRecord) : Prop := rods.Pairwise fun a b => a.id < b.id

theorem findRod_id {rods : List RodRecord} {id : Nat} {r : RodRecord}
    (h : findRod rods id = some r) : r.id = id := by
  have := List.find?_some h; simpa using this

theorem findRod_mem {rods : List RodRecord} {id : Nat} {r : RodRecord}
    (h : findRod rods id = some r) : r ∈ rods := List.mem_of_find?_eq_some h

theorem findRod_none {rods : List RodRecord} {id : Nat} :
    findRod rods id = none ↔ ∀ r ∈ rods, r.id ≠ id := by
  unfold findRod; rw [List.find?_eq_none]; simp

/-- In a sorted table two records of one ID are one. -/
theorem RodsSorted.unique {rods : List RodRecord} (h : RodsSorted rods) {a b : RodRecord}
    (ha : a ∈ rods) (hb : b ∈ rods) (e : a.id = b.id) : a = b := by
  induction rods with
  | nil => cases ha
  | cons x xs ih =>
    rw [RodsSorted, List.pairwise_cons] at h
    rcases List.mem_cons.1 ha with rfl | ha' <;> rcases List.mem_cons.1 hb with rfl | hb'
    · rfl
    · exact absurd e (Nat.ne_of_lt (h.1 b hb'))
    · exact absurd e.symm (Nat.ne_of_lt (h.1 a ha'))
    · exact ih h.2 ha' hb'

/-- In a sorted table the look-up finds exactly the records that are there. -/
theorem RodsSorted.find_iff {rods : List RodRecord} (h : RodsSorted rods) {id : Nat}
    {r : RodRecord} : findRod rods id = some r ↔ r ∈ rods ∧ r.id = id := by
  refine ⟨fun e => ⟨findRod_mem e, findRod_id e⟩, fun ⟨hm, hi⟩ => ?_⟩
  cases hf : findRod rods id with
  | none => exact absurd hi (findRod_none.1 hf r hm)
  | some x => rw [h.unique (findRod_mem hf) hm ((findRod_id hf).trans hi.symm)]

/-! ## A change of every record that keeps its ID -/

theorem findRod_map {f : RodRecord → RodRecord} (hf : ∀ r, (f r).id = r.id)
    (rods : List RodRecord) (id : Nat) : findRod (rods.map f) id = (findRod rods id).map f := by
  unfold findRod
  rw [List.find?_map]
  simp only [Function.comp_def, hf]

theorem RodsSorted.map {rods : List RodRecord} (h : RodsSorted rods) {f : RodRecord → RodRecord}
    (hf : ∀ r, (f r).id = r.id) : RodsSorted (rods.map f) := by
  rw [RodsSorted, List.pairwise_map]
  exact h.imp (by intro a b hab; rw [hf, hf]; exact hab)

theorem findRod_updateRod {id : Nat} {f : RodRecord → RodRecord}
    (hf : ∀ r : RodRecord, r.id = id → (f r).id = id) (rods : List RodRecord) (j : Nat) :
    findRod (updateRod id f rods) j =
      (findRod rods j).map fun r => if r.id = id then f r else r := by
  unfold updateRod
  refine findRod_map (fun r => ?_) rods j
  split
  · next h => rw [hf r h, h]
  · rfl

/-! ## Deletion and insertion -/

theorem findRod_eraseRod (id : Nat) (rods : List RodRecord) (j : Nat) :
    findRod (eraseRod id rods) j = if j = id then none else findRod rods j := by
  split
  · next h =>
    rw [findRod_none]
    intro r hr e
    unfold eraseRod at hr
    have := (List.mem_filter.1 hr).2
    simp [e, h] at this
  · next h =>
    unfold eraseRod findRod
    rw [List.find?_filter]
    congr 1
    funext r
    by_cases e : r.id = j
    · simp [e]
      omega
    · simp [e]

theorem RodsSorted.erase {rods : List RodRecord} (h : RodsSorted rods) (id : Nat) :
    RodsSorted (eraseRod id rods) := List.Pairwise.filter _ h

theorem mem_insertRod {r x : RodRecord} {rods : List RodRecord} (h : x ∈ insertRod r rods) :
    x = r ∨ x ∈ rods := by
  induction rods with
  | nil => simpa [insertRod] using h
  | cons y ys ih =>
    unfold insertRod at h
    split at h
    · simpa using h
    · split at h
      · rcases List.mem_cons.1 h with e | e
        · exact .inl e
        · exact .inr (List.mem_cons_of_mem _ e)
      · rcases List.mem_cons.1 h with e | e
        · exact .inr (e ▸ List.mem_cons_self)
        · exact (ih e).imp_right (List.mem_cons_of_mem _)

theorem findRod_cons (x : RodRecord) (xs : List RodRecord) (j : Nat) :
    findRod (x :: xs) j = if x.id = j then some x else findRod xs j := by
  unfold findRod
  rw [List.find?_cons]
  by_cases e : x.id = j
  · simp [e]
  · have : (x.id == j) = false := by simpa using e
    rw [this, if_neg e]

theorem findRod_insertRod (r : RodRecord) (rods : List RodRecord) (j : Nat) :
    findRod (insertRod r rods) j = if j = r.id then some r else findRod rods j := by
  induction rods with
  | nil =>
    unfold insertRod
    rw [findRod_cons]
    by_cases e : j = r.id
    · simp [e]
    · simp [e, Ne.symm e]
  | cons y ys ih =>
    unfold insertRod
    by_cases e : j = r.id
    · subst e
      simp only [if_true] at ih ⊢
      split
      · rw [findRod_cons, if_pos rfl]
      · split
        · rw [findRod_cons, if_pos rfl]
        · next h => rw [findRod_cons, if_neg (fun q => h q.symm), ih]
    · have e' : r.id ≠ j := fun q => e q.symm
      simp only [if_neg e] at ih ⊢
      split
      · rw [findRod_cons, if_neg e']
      · split
        · next h => rw [findRod_cons, if_neg e', findRod_cons, if_neg (by omega)]
        · rw [findRod_cons, ih, findRod_cons]

theorem RodsSorted.insert {rods : List RodRecord} (h : RodsSorted rods) (r : RodRecord) :
    RodsSorted (insertRod r rods) := by
  induction rods with
  | nil => simp [insertRod]
  | cons y ys ih =>
    rw [RodsSorted, List.pairwise_cons] at h
    unfold insertRod
    split
    · next lt =>
      rw [RodsSorted, List.pairwise_cons]
      refine ⟨fun x hx => ?_, List.pairwise_cons.2 h⟩
      rcases List.mem_cons.1 hx with rfl | hx
      · exact lt
      · exact lt.trans (h.1 x hx)
    · split
      · next eq =>
        rw [RodsSorted, List.pairwise_cons]
        exact ⟨fun x hx => eq ▸ h.1 x hx, h.2⟩
      · next lt ne =>
        rw [RodsSorted, List.pairwise_cons]
        refine ⟨fun x hx => ?_, ih h.2⟩
        rcases mem_insertRod hx with rfl | hx
        · omega
        · exact h.1 x hx

end Sys2Proof.Machine
end

