-- ==== Sys2Proof/Laws/Shift.lean ====
section
/-! SUPPORT. What the shift does to each part of the state (R33, effects 2 to 7), field by field, from
the state before it. A proof about a step cites these and does not unfold the shift. -/

namespace Sys2Proof.Machine

variable (s : State)

/-- The record of the rod at L - 1 after its taking, for a rod record of the table (R131). -/
def State.takenRod (r : RodRecord) : RodRecord :=
  match s.track.lastSlot.bind s.rod with
  | none => r
  | some out =>
    if r.id = out.id then
      out.exitWith (resolveChain s.registry.lots out.lot) (s.formatFields out.format)
        (s.track.stepNumber + 1)
    else r

/-- What the shift does to a rod record (R33, effects 2 to 4). -/
def State.shiftedRod (r : RodRecord) : RodRecord :=
  let moved := (s.takenRod r).moveUp
  match s.admission.boarding with
  | .rod id =>
    if moved.id = id then { moved with place := .onTrack 0 (s.track.stepNumber + 1) } else moved
  | .gap => moved
  | .empty => moved

/-- Whether a shift that boards `b` completes a changeover (R81). -/
def State.completesChangeover (b : Boarding) : Bool :=
  match s.admission.mode, b with
  | .changeover p _, .rod id => decide (s.rodFormat id = some p)
  | .changeover _ _, .gap => false
  | .changeover _ _, .empty => false
  | .open_, _ => false
  | .closed, _ => false

/-! ## Records keep their identity -/

@[simp] theorem addMark_id (m : Mark) (r : RodRecord) : (r.addMark m).id = r.id := by
  unfold RodRecord.addMark; split <;> rfl

@[simp] theorem addMark_lot (m : Mark) (r : RodRecord) : (r.addMark m).lot = r.lot := by
  unfold RodRecord.addMark; split <;> rfl

@[simp] theorem addMark_format (m : Mark) (r : RodRecord) : (r.addMark m).format = r.format := by
  unfold RodRecord.addMark; split <;> rfl

@[simp] theorem addMark_place (m : Mark) (r : RodRecord) : (r.addMark m).place = r.place := by
  unfold RodRecord.addMark; split <;> rfl

@[simp] theorem addMark_hangStep (m : Mark) (r : RodRecord) :
    (r.addMark m).hangStep = r.hangStep := by unfold RodRecord.addMark; split <;> rfl

@[simp] theorem addMark_dose (m : Mark) (r : RodRecord) : (r.addMark m).dose = r.dose := by
  unfold RodRecord.addMark; split <;> rfl

@[simp] theorem addMark_offSchedule (m : Mark) (r : RodRecord) :
    (r.addMark m).offSchedule = r.offSchedule := by unfold RodRecord.addMark; split <;> rfl

/-- A resolution is no more than the adding of a mark. -/
theorem applyResolution_cases (c : ChainResult) (r : RodRecord) :
    r.applyResolution c = r ∨ ∃ m, r.applyResolution c = r.addMark m := by
  cases c
  · exact .inl rfl
  · exact .inr ⟨.lotHeld, rfl⟩
  · exact .inr ⟨.chainFault, rfl⟩

@[simp] theorem applyResolution_id (c : ChainResult) (r : RodRecord) :
    (r.applyResolution c).id = r.id := by
  rcases applyResolution_cases c r with h | ⟨m, h⟩ <;> rw [h]; exact addMark_id m r

@[simp] theorem applyResolution_lot (c : ChainResult) (r : RodRecord) :
    (r.applyResolution c).lot = r.lot := by
  rcases applyResolution_cases c r with h | ⟨m, h⟩ <;> rw [h]; exact addMark_lot m r

@[simp] theorem applyResolution_format (c : ChainResult) (r : RodRecord) :
    (r.applyResolution c).format = r.format := by
  rcases applyResolution_cases c r with h | ⟨m, h⟩ <;> rw [h]; exact addMark_format m r

@[simp] theorem applyResolution_place (c : ChainResult) (r : RodRecord) :
    (r.applyResolution c).place = r.place := by
  rcases applyResolution_cases c r with h | ⟨m, h⟩ <;> rw [h]; exact addMark_place m r

@[simp] theorem applyResolution_hangStep (c : ChainResult) (r : RodRecord) :
    (r.applyResolution c).hangStep = r.hangStep := by
  rcases applyResolution_cases c r with h | ⟨m, h⟩ <;> rw [h]; exact addMark_hangStep m r

@[simp] theorem applyResolution_dose (c : ChainResult) (r : RodRecord) :
    (r.applyResolution c).dose = r.dose := by
  rcases applyResolution_cases c r with h | ⟨m, h⟩ <;> rw [h]; exact addMark_dose m r

@[simp] theorem applyResolution_offSchedule (c : ChainResult) (r : RodRecord) :
    (r.applyResolution c).offSchedule = r.offSchedule := by
  rcases applyResolution_cases c r with h | ⟨m, h⟩ <;> rw [h]; exact addMark_offSchedule m r

/-- Moving up changes nothing but the place. -/
theorem moveUp_eq (r : RodRecord) :
    r.moveUp = { r with place :=
      match r.place with
      | .onTrack p b => .onTrack (p + 1) b
      | .staged => .staged
      | .boarding => .boarding
      | .exited b e d => .exited b e d } := by
  unfold RodRecord.moveUp; split <;> rename_i h <;> cases r <;> simp_all

@[simp] theorem moveUp_id (r : RodRecord) : r.moveUp.id = r.id := by rw [moveUp_eq]

theorem takenRod_id (r : RodRecord) : (s.takenRod r).id = r.id := by
  unfold State.takenRod
  split
  · rfl
  · split
    · next h => rw [h]; simp [RodRecord.exitWith]
    · rfl

theorem shiftedRod_id (r : RodRecord) : (s.shiftedRod r).id = r.id := by
  unfold State.shiftedRod
  dsimp only
  split
  · split <;> simp [takenRod_id]
  · simp [takenRod_id]
  · simp [takenRod_id]

/-! ## The shift, part by part -/

theorem takeExit_rods : s.takeExit.1.registry.rods = s.registry.rods.map s.takenRod := by
  unfold State.takeExit State.takenRod
  cases s.track.lastSlot.bind s.rod with
  | none => simp
  | some out => rfl

theorem takeExit_lots : s.takeExit.1.registry.lots = s.registry.lots := by
  unfold State.takeExit; split <;> rfl

theorem takeExit_exitQueue :
    s.takeExit.1.exitQueue =
      s.exitQueue ++ ((s.track.lastSlot.bind s.rod).map (·.id)).toList := by
  unfold State.takeExit
  cases s.track.lastSlot.bind s.rod with
  | none => simp
  | some out => simp

/-- What the admission unit and the claims become when they are told what boarded (R75, R81). -/
theorem noteBoarded_eq (b : Boarding) :
    s.noteBoarded b =
      { s with
        admission := { s.admission with
          trailing := match b with
            | .rod _ => 0
            | .gap => min 255 (s.admission.trailing + 1)
            | .empty => min 255 (s.admission.trailing + 1)
          mode := if s.completesChangeover b then .open_ else s.admission.mode
          running := if s.completesChangeover b then
              (match s.admission.mode with
                | .changeover p _ => some p
                | .open_ => s.admission.running
                | .closed => s.admission.running)
            else s.admission.running }
        authority := { s.authority with claims := { s.authority.claims with
          changeover := if s.completesChangeover b then none else s.authority.claims.changeover } } } := by
  obtain ⟨_, ⟨_, _, _, mode, _⟩, _, _, _, _, ⟨⟨_, _, _⟩, _, _, _⟩, _, _, _⟩ := s
  unfold State.noteBoarded State.completesChangeover
  cases b <;> cases mode <;> try rfl
  dsimp only
  simp only [decide_eq_true_eq]
  split <;> rfl

/-- The rods after a shift: each record changed by itself. -/
theorem shift_rods : s.shift.1.registry.rods = s.registry.rods.map s.shiftedRod := by
  have h : s.shift.1.registry.rods = (s.takeExit.1.moveSlots).registry.rods := by
    unfold State.shift; simp
  rw [h]
  unfold State.moveSlots
  dsimp only
  rw [takeExit_admission, takeExit_track, takeExit_rods]
  unfold State.shiftedRod updateRod
  cases s.admission.boarding <;> simp [Function.comp_def]

theorem shift_rod (id : Nat) : s.shift.1.rod id = (s.rod id).map s.shiftedRod := by
  unfold State.rod; rw [shift_rods]; exact findRod_map (shiftedRod_id s) _ _

theorem shift_lots : s.shift.1.registry.lots = s.registry.lots := by
  have h : s.shift.1.registry.lots = (s.takeExit.1.moveSlots).registry.lots := by
    unfold State.shift; simp
  rw [h]; exact takeExit_lots s

theorem shift_exitQueue :
    s.shift.1.exitQueue =
      s.exitQueue ++ ((s.track.lastSlot.bind s.rod).map (·.id)).toList := by
  have h : s.shift.1.exitQueue = s.takeExit.1.exitQueue := by
    unfold State.shift; simp
  rw [h]; exact takeExit_exitQueue s

/-- The format of a rod stands at a shift. -/
theorem shiftedRod_keeps (r : RodRecord) (h : ∀ x, s.rod r.id = some x → x = r) :
    (s.shiftedRod r).lot = r.lot ∧ (s.shiftedRod r).format = r.format ∧
      (s.shiftedRod r).hangStep = r.hangStep ∧ (s.shiftedRod r).dose = r.dose ∧
      (s.shiftedRod r).offSchedule = r.offSchedule := by
  have taken : (s.takenRod r).lot = r.lot ∧ (s.takenRod r).format = r.format ∧
      (s.takenRod r).hangStep = r.hangStep ∧ (s.takenRod r).dose = r.dose ∧
      (s.takenRod r).offSchedule = r.offSchedule := by
    unfold State.takenRod
    split
    · exact ⟨rfl, rfl, rfl, rfl, rfl⟩
    · next out e =>
      split
      · next hid =>
        obtain ⟨id, hl, hr⟩ := Option.bind_eq_some_iff.1 e
        have : out = r := by
          refine h out ?_
          rw [hid, findRod_id hr]; exact hr
        subst this
        simp [RodRecord.exitWith]
      · exact ⟨rfl, rfl, rfl, rfl, rfl⟩
  have moved : (s.takenRod r).moveUp.lot = r.lot ∧ (s.takenRod r).moveUp.format = r.format ∧
      (s.takenRod r).moveUp.hangStep = r.hangStep ∧ (s.takenRod r).moveUp.dose = r.dose ∧
      (s.takenRod r).moveUp.offSchedule = r.offSchedule := by
    rw [moveUp_eq]; exact taken
  unfold State.shiftedRod
  dsimp only
  split
  · split <;> exact moved
  · exact moved
  · exact moved

theorem moved_rodFormat (id : Nat) :
    (s.takeExit.1.moveSlots).rodFormat id = s.rodFormat id := by
  unfold State.rodFormat State.rod
  have h : (s.takeExit.1.moveSlots).registry.rods = s.registry.rods.map s.shiftedRod := by
    rw [← shift_rods]; unfold State.shift; simp
  rw [h, findRod_map (shiftedRod_id s)]
  cases hr : findRod s.registry.rods id with
  | none => rfl
  | some r =>
    have keep := shiftedRod_keeps s r (fun x hx => by
      have : s.rod r.id = some r := by
        unfold State.rod; rw [findRod_id hr]; exact hr
      rw [this] at hx; exact (Option.some.inj hx).symm)
    simp [keep.2.1]

theorem moved_completes (b : Boarding) :
    (s.takeExit.1.moveSlots).completesChangeover b = s.completesChangeover b := by
  unfold State.completesChangeover
  rw [show (s.takeExit.1.moveSlots).admission.mode = s.admission.mode by simp [State.moveSlots]]
  simp only [moved_rodFormat]

/-- The admission unit after a shift. -/
theorem shift_admission :
    s.shift.1.admission =
      { s.admission with
        boarding := .empty
        trailing := match s.admission.boarding with
          | .rod _ => 0
          | .gap => min 255 (s.admission.trailing + 1)
          | .empty => min 255 (s.admission.trailing + 1)
        mode := if s.completesChangeover s.admission.boarding then .open_ else s.admission.mode
        running := if s.completesChangeover s.admission.boarding then
            (match s.admission.mode with
              | .changeover p _ => some p
              | .open_ => s.admission.running
              | .closed => s.admission.running)
          else s.admission.running } := by
  unfold State.shift
  simp only [checkDrain_admission, recomputeZones_admission, raiseStepNumber_admission]
  rw [noteBoarded_eq, moved_completes]
  simp [State.moveSlots]

/-- The part after effects 2 to 6 of the shift, before the drain is checked. -/
abbrev State.shiftedPart : State :=
  (((s.takeExit.1.moveSlots).noteBoarded s.admission.boarding).raiseStepNumber).recomputeZones

theorem shift_eq : s.shift = (s.shiftedPart.checkDrain, s.takeExit.2) := rfl

theorem shiftedPart_track :
    s.shiftedPart.track =
      { s.track with
        slots := shiftSlots s.admission.boarding.slot s.track.slots
        stepNumber := s.track.stepNumber + 1 } := by
  simp [State.shiftedPart, State.raiseStepNumber, State.moveSlots, noteBoarded_eq]

theorem shiftedPart_authority :
    s.shiftedPart.authority =
      { s.authority with claims := { s.authority.claims with
        changeover := if s.completesChangeover s.admission.boarding then none
          else s.authority.claims.changeover } } := by
  simp only [State.shiftedPart, recomputeZones_authority, raiseStepNumber_authority]
  rw [noteBoarded_eq, moved_completes]
  simp [State.moveSlots]

theorem shiftedPart_drains :
    (s.shiftedPart.authority.drain = true ∧ s.shiftedPart.track.isEmpty = true) ↔
      s.drainEnds = true := by
  rw [shiftedPart_track, shiftedPart_authority]
  simp [State.drainEnds, TrackControl.isEmpty, shiftSlots]

/-- The track controller after a shift: the slots and the step number, and STOPPED where the drain
ends. -/
theorem shift_track :
    s.shift.1.track =
      if s.drainEnds then
        { s.track with
          slots := shiftSlots s.admission.boarding.slot s.track.slots
          stepNumber := s.track.stepNumber + 1, motion := .stopped, causes := {}, owed := false
          cadenceCount := 0 }
      else
        { s.track with
          slots := shiftSlots s.admission.boarding.slot s.track.slots
          stepNumber := s.track.stepNumber + 1 } := by
  rw [shift_eq]
  dsimp only
  unfold State.checkDrain
  by_cases h : s.drainEnds = true
  · rw [if_pos ((shiftedPart_drains s).2 h), if_pos h]
    unfold State.completeDrain
    simp only [mapTrack_track, setHolder_track, mapAuthority_track, shiftedPart_track]
    rfl
  · rw [if_neg (fun q => h ((shiftedPart_drains s).1 q)), if_neg h, shiftedPart_track]

/-- The authority unit after a shift: the CHANGEOVER claim released by a completed changeover, the
drain and the PURGE claim gone where the drain ends. -/
theorem shift_authority :
    s.shift.1.authority =
      { s.authority with
        claims :=
          { changeover := if s.completesChangeover s.admission.boarding then none
              else s.authority.claims.changeover
            purge := if s.drainEnds then none else s.authority.claims.purge
            reconfigure := s.authority.claims.reconfigure }
        drain := if s.drainEnds then false else s.authority.drain } := by
  rw [shift_eq]
  dsimp only
  unfold State.checkDrain
  by_cases h : s.drainEnds = true
  · rw [if_pos ((shiftedPart_drains s).2 h), if_pos h, if_pos h]
    unfold State.completeDrain
    simp only [mapTrack_authority]
    unfold State.setHolder State.mapAuthority
    simp only [shiftedPart_authority]
    rfl
  · rw [if_neg (fun q => h ((shiftedPart_drains s).1 q)), if_neg h, if_neg h,
      shiftedPart_authority]

/-- The zones after a shift: recomputed from the track and the rods as they then stand. -/
theorem shift_zones :
    s.shift.1.zones =
      { s.zones with
        channels := Vector.ofFn fun z : Zone =>
          if s.zones.channels[z].enabled then
            s.zones.channels[z].switch
              (s.shift.1.governingFormat s.zones.channels[z].base s.zones.channels[z].limit)
          else s.zones.channels[z] } := by
  have gov : ∀ b l, s.shift.1.governingFormat b l =
      (((s.takeExit.1.moveSlots).noteBoarded s.admission.boarding).raiseStepNumber).governingFormat
        b l := by
    intro b l
    have hs : s.shift.1.track.slots = s.shiftedPart.track.slots := by
      rw [shift_track, shiftedPart_track]; split <;> rfl
    have ha : s.shift.1.admission.running = s.shiftedPart.admission.running := by
      rw [shift_eq]; simp
    have hr : s.shift.1.registry.rods = s.shiftedPart.registry.rods := by
      rw [shift_eq]; simp
    unfold State.governingFormat State.rodFormat State.rod
    rw [hs, ha, hr]
    rfl
  have zs : (((s.takeExit.1.moveSlots).noteBoarded s.admission.boarding).raiseStepNumber).zones =
      s.zones := by
    simp
  have hz : s.shift.1.zones =
      ((((s.takeExit.1.moveSlots).noteBoarded
        s.admission.boarding).raiseStepNumber).recomputeZones).zones := by
    rw [shift_eq]; simp
  simp only [gov]
  rw [hz]
  unfold State.recomputeZones State.mapChannels
  rw [zs]

end Sys2Proof.Machine
end

