-- ==== Sys2Proof/Laws/Shifted.lean ====
section
/-! SUPPORT. The shift as the statements write it: `Shifted` from the places of the rods, and what
keeps it afterwards. -/

namespace Sys2Proof.Machine

/-- In a table that keeps one record for an ID, a record is what its ID finds. -/
theorem RodInv.rod_of_mem {s : State} (h : RodInv s) {r : RodRecord} (hr : r ∈ s.registry.rods) :
    s.rod r.id = some r :=
  (RodsSorted.find_iff h.sorted).2 ⟨hr, rfl⟩

/-- The last slot is the slot at position L - 1. -/
theorem TrackControl.lastSlot_eq {s : State} {id : Nat} (h : s.track.lastSlot = some id) :
    s.track.slots[s.track.slots.length - 1]? = some (some id) := by
  unfold TrackControl.lastSlot at h
  rw [List.getLast?_eq_getElem?] at h
  cases hq : s.track.slots[s.track.slots.length - 1]? with
  | none => rw [hq] at h; cases h
  | some x => rw [hq] at h; simp at h; rw [h]

/-- The rod at position L - 1 has its record, ON_TRACK there. -/
theorem PlaceInv.lastSlot {s : State} (P : PlaceInv s) {id : Nat}
    (h : s.track.lastSlot = some id) :
    ∃ r b, s.rod id = some r ∧ r.id = id ∧
      r.place = .onTrack (s.track.slots.length - 1) b := by
  obtain ⟨r, b, h1, h2⟩ := (P.onTrack id _).1 (TrackControl.lastSlot_eq h)
  exact ⟨r, b, h1, findRod_id h1, h2⟩

/-- A rod whose place is not BOARDING is not in the boarding slot. -/
theorem PlaceInv.notBoarding {s : State} (P : PlaceInv s) {id : Nat} {r : RodRecord}
    (hr : s.rod id = some r) (hp : r.place ≠ .boarding) : s.admission.boarding ≠ .rod id := by
  intro hb
  obtain ⟨r', h1, h2⟩ := (P.boarding id).1 hb
  rw [hr] at h1
  cases h1
  exact hp h2

/-- The taking of the exit rod resolves its lot chain as `resolvedRod` writes it. -/
theorem applyResolution_eq (s : State) (r : RodRecord) :
    r.applyResolution (resolveChain s.registry.lots r.lot) = s.resolvedRod r := by
  unfold RodRecord.applyResolution State.resolvedRod
  cases resolveChain s.registry.lots r.lot <;> rfl

@[simp] theorem resolvedRod_id (s : State) (r : RodRecord) : (s.resolvedRod r).id = r.id := by
  rw [← applyResolution_eq]; exact applyResolution_id _ r

@[simp] theorem resolvedRod_place (s : State) (r : RodRecord) :
    (s.resolvedRod r).place = r.place := by
  rw [← applyResolution_eq]; exact applyResolution_place _ r

/-- The record of the exit rod after its taking. -/
theorem exitWith_eq (s : State) (r : RodRecord) :
    r.exitWith (resolveChain s.registry.lots r.lot) (s.formatFields r.format)
        (s.track.stepNumber + 1) =
      { s.resolvedRod r with
        place := .exited r.place.boardStep (s.track.stepNumber + 1) (s.exitDisposition r) } := by
  unfold RodRecord.exitWith State.exitDisposition
  simp only [applyResolution_dose, ← applyResolution_eq]

/-- The events of a shift are those of its exit rod. -/
theorem takeExit_events (s : State) : s.takeExit.2 = s.exitEvents := by
  unfold State.takeExit State.exitEvents
  cases s.track.lastSlot.bind s.rod with
  | none => rfl
  | some r =>
    dsimp only
    rw [exitWith_eq]
    simp only [RodRecord.disposition, Option.some.injEq]
    congr 1
    cases resolveChain s.registry.lots r.lot <;> rfl

/-- A rod that the shift does not take off the track only moves. -/
theorem PlaceInv.movedRod {s : State} (P : PlaceInv s) {id : Nat} {r : RodRecord}
    (hr : s.rod id = some r) (stays : s.track.lastSlot ≠ some r.id) :
    (let moved := r.moveUp
     match s.admission.boarding with
      | .rod b =>
        if moved.id = b then { moved with place := .onTrack 0 (s.track.stepNumber + 1) } else moved
      | .gap => moved
      | .empty => moved : RodRecord) = s.rodAfterShift r := by
  have hid := findRod_id hr
  unfold State.rodAfterShift State.placeAfterShift
  rw [if_neg stays]
  cases hp : r.place with
  | boarding =>
    have : s.admission.boarding = .rod id := (P.boarding id).2 ⟨r, hr, hp⟩
    rw [this]
    simp [hid, moveUp_eq]
  | _ =>
    have away := P.notBoarding hr (by rw [hp]; simp)
    cases hb : s.admission.boarding with
    | rod b =>
      have : r.id ≠ b := fun q => away (by rw [hb, ← q, hid])
      simp [this, moveUp_eq, hp, stays]
    | gap => simp [moveUp_eq, hp, stays]
    | empty => simp [moveUp_eq, hp, stays]

/-- What the shift does to the record of a rod, in the form of the statements. -/
theorem PlaceInv.shiftedRod_eq {s : State} (P : PlaceInv s) {id : Nat} {r : RodRecord}
    (hr : s.rod id = some r) : s.shiftedRod r = s.rodAfterShift r := by
  have hid := findRod_id hr
  unfold State.shiftedRod State.takenRod
  cases hl : s.track.lastSlot with
  | none =>
    simp only [Option.bind_none]
    exact P.movedRod hr (by rw [hl]; simp)
  | some o =>
    obtain ⟨ro, bo, h1, h2, h3⟩ := P.lastSlot hl
    simp only [Option.bind_some, h1]
    by_cases ho : r.id = o
    · have : ro = r := by rw [← ho, hid, hr] at h1; exact (Option.some.inj h1).symm
      subst this
      have away := P.notBoarding hr (by rw [h3]; simp)
      unfold State.rodAfterShift State.placeAfterShift
      rw [h3, exitWith_eq]
      simp only [if_true, hl, ho, h3]
      cases hb : s.admission.boarding with
      | rod b' =>
        have : ro.id ≠ b' := fun q => away (by rw [hb, ← q, hid])
        have : o ≠ b' := ho ▸ this
        simp [moveUp_eq, Place.boardStep, ho, this]
      | gap => simp [moveUp_eq, Place.boardStep]
      | empty => simp [moveUp_eq, Place.boardStep]
    · rw [if_neg (by rw [h2]; exact ho)]
      exact P.movedRod hr (by rw [hl]; exact fun q => ho (Option.some.inj q).symm)

/-- A shift completes a changeover to the format that the statements name. -/
theorem completesChangeover_eq (s : State) :
    s.completesChangeover s.admission.boarding = s.completedFormat.isSome := by
  unfold State.completesChangeover State.completedFormat
  cases s.admission.mode <;> cases s.admission.boarding <;> try rfl
  dsimp only
  split <;> simp_all

/-- The admission unit after a shift, in the form of the statements. -/
theorem shift_admission_eq (s : State) :
    s.shift.1.admission =
      { staging := s.admission.staging
        boarding := .empty
        running := s.completedFormat.or s.admission.running
        mode := if s.completedFormat.isSome then .open_ else s.admission.mode
        trailing :=
          match s.admission.boarding with
          | .rod _ => 0
          | .gap => min 255 (s.admission.trailing + 1)
          | .empty => min 255 (s.admission.trailing + 1) } := by
  rw [shift_admission, completesChangeover_eq]
  unfold State.completedFormat
  cases s.admission.mode <;> cases s.admission.boarding <;> try rfl
  dsimp only
  split <;> rfl

/-- The record that a rod ID finds after a shift. -/
theorem PlaceInv.rod_shift {s : State} (P : PlaceInv s) {id : Nat} {r : RodRecord}
    (hr : s.rod id = some r) : s.shift.1.rod id = some (s.rodAfterShift r) := by
  rw [shift_rod, hr, Option.map_some, P.shiftedRod_eq hr]

/-- The exit queue after a shift. -/
theorem PlaceInv.exitQueue_shift {s : State} (P : PlaceInv s) :
    s.shift.1.exitQueue = s.exitQueue ++ s.track.lastSlot.toList := by
  rw [shift_exitQueue]
  congr 2
  cases h : s.track.lastSlot with
  | none => rfl
  | some id => obtain ⟨r, b, h1, h2, -⟩ := P.lastSlot h; simp [h1, h2]

/-- The shift does what the statements say a shift does, where the rod table keeps one record for an
ID and the places of the rods are as they should be. -/
theorem shifted_shift (s : State) (R : RodInv s) (P : PlaceInv s) : Shifted s s.shift.1 := by
  refine ⟨shift_track s, ?_, shift_lots s, P.exitQueue_shift, ?_, ?_, ?_, fun z => ?_, ?_, ?_, ?_, ?_⟩
  · rw [shift_rods]
    exact List.map_congr_left fun r hr => P.shiftedRod_eq (R.rod_of_mem hr)
  · refine (shift_admission_eq s).trans ?_
    cases s.admission.boarding <;> rfl
  · rw [shift_authority, completesChangeover_eq]
  · rw [shift_zones]
  · rw [shift_zones]
    simp only [Fin.getElem_fin, Vector.getElem_ofFn]
    unfold ZoneChannel.switch
    by_cases e : (s.zones.channels[z.val]).enabled = true
    · simp only [e, if_true, true_and, ne_eq]
      split <;> simp_all
    · simp [e]
  · simp
  · simp
  · simp
  · simp

/-! ## A shift does not look at the links -/

theorem takeExit_endFrame (s : State) (link : Link) :
    (s.endFrame link).takeExit = (s.takeExit.1.endFrame link, s.takeExit.2) := by
  unfold State.takeExit
  have : (s.endFrame link).track.lastSlot.bind (s.endFrame link).rod =
      s.track.lastSlot.bind s.rod := rfl
  rw [this]
  cases s.track.lastSlot.bind s.rod <;> rfl

theorem noteBoarded_endFrame (s : State) (link : Link) (b : Boarding) :
    (s.endFrame link).noteBoarded b = (s.noteBoarded b).endFrame link := by
  rw [noteBoarded_eq, noteBoarded_eq]; rfl

theorem checkDrain_endFrame (s : State) (link : Link) :
    (s.endFrame link).checkDrain = s.checkDrain.endFrame link := by
  unfold State.checkDrain
  by_cases h : s.authority.drain = true ∧ s.track.isEmpty = true
  · rw [if_pos h]; exact if_pos h
  · rw [if_neg h]; exact if_neg h

/-- With the end of a frame before a shift or after it the part is the same. -/
theorem shift_endFrame (s : State) (link : Link) :
    (s.endFrame link).shift = (s.shift.1.endFrame link, s.shift.2) := by
  have moved : (s.endFrame link).takeExit.1.moveSlots = s.takeExit.1.moveSlots.endFrame link := by
    rw [takeExit_endFrame]; rfl
  have raised : (s.endFrame link).takeExit.2 = s.takeExit.2 := by rw [takeExit_endFrame]
  unfold State.shift
  dsimp only
  rw [moved, raised, endFrame_admission, noteBoarded_endFrame]
  exact congrArg (·, s.takeExit.2)
    (checkDrain_endFrame
      ((s.takeExit.1.moveSlots.noteBoarded s.admission.boarding).raiseStepNumber).recomputeZones link)

/-- The same for the completion of a suspended step. -/
theorem completeSuspended_endFrame (s : State) (link : Link) :
    (s.endFrame link).completeSuspended =
      (s.completeSuspended.1.endFrame link, s.completeSuspended.2) := by
  unfold State.completeSuspended
  rw [shift_endFrame]; rfl

end Sys2Proof.Machine
end

