-- ==== Sys2Proof/Tests/Slice0.lean ====
section
/-! SUPPORT. The author's own tests: ill-formed commands, command frames written out from the
spec's tables, what each command does to a small hall, and a state and operands for the hypotheses
of every statement. -/

namespace Sys2Proof.Tests

open Sys2Proof Sys2Proof.Machine

/-! ## A small hall -/

/-- The part after a command (the part itself where the command stops). -/
def after (c : Instr) (s : State) : State :=
  match exec c s with
  | .next t => t
  | .fault _ => s
  | .refused _ => s

/-- Two supervisors on SL0 and SL1, the spreader on SL4, the stripper on SL7, zones 0 and 1 on SL8
and SL9. -/
def straps : Vector (BitVec 4) 12 := #v[1, 1, 0, 0, 2, 0, 0, 3, 8, 9, 0, 0]

def hall : State := after (.deviceReset straps) State.reset

/-- 60.0 degrees within 1.0 and 3.0, 50 percent within 3 and 8. -/
def schedule : ZoneSchedule :=
  { temperature := 600, temperatureTolerance := 10, temperatureLimit := 30, humidity := 50,
    humidityTolerance := 3, humidityLimit := 8 }

def entry (dryingClass leadGap : Nat) : FormatEntry :=
  { dryingClass := dryingClass, leadGap := leadGap, doseMinimum := 100, doseMaximum := 200,
    tolerance := 2, schedules := Vector.replicate 8 schedule }

/-- Formats 1 and 2 dry alike, format 3 does not. -/
def formats : Vector (Option FormatEntry) 16 :=
  (((Vector.replicate 16 none).set 0 (some (entry 1 3))).set 1 (some (entry 1 4))).set 2
    (some (entry 2 5))

/-- A hall under reconfiguration by SL0. -/
def editing : State :=
  { hall with
    authority := { hall.authority with
      formats := formats, claims := { hall.authority.claims with reconfigure := some 0 } } }

/-- A window on a channel. -/
def windowed (s : State) (z : Zone) (base limit : Nat) (state : ZoneState) (f : Option Nat) :
    State :=
  s.withChannel z { s.zones.channels[z] with
    base := base, limit := limit, state := state, governing := f,
    report := if state = .reporting then
        some { format := f.getD 0, temperature := 600, humidity := 50, doseRate := 7 }
      else none }

/-- A configured hall: 16 positions, zone 0 over 2..5, zone 1 over 8..10. -/
def stopped : State :=
  windowed (windowed
    { hall with
      authority := { hall.authority with formats := formats, lock := true }
      track := { hall.track with slots := List.replicate 16 none } } 0 2 5 .awaiting none)
    1 8 10 .awaiting none

def lotOf (status : LotStatus) (number format rodCount : Nat) (held : Bool)
    (forward : Option (Fin 32)) (referrers : Nat) : Option Lot :=
  some { status := status, number := number, format := format, rodCount := rodCount, held := held,
         forward := forward, referrers := referrers }

/-- Lot 7 is OPEN, lot 9 is CLOSED and folded into lot 11, which holds no rod. -/
def lots : LotTable :=
  (((Vector.replicate 32 none).set 0 (lotOf .opened 7 1 3 false none 0)).set 1
    (lotOf .closed 9 1 2 false (some 2) 0)).set 2 (lotOf .closed 11 2 0 false none 1)

def rodAt (id : Nat) (lot : Fin 32) (place : Place) : RodRecord :=
  { id := id, lot := lot, format := 1, place := place, hangStep := 0, dose := 0, offSchedule := 0,
    marks := {}, grade := .clean }

/-- Rod 2 in the exit queue, rod 3 at position 15, rod 4 at 3, rod 5 boarding, rod 6 staged. -/
def rods : List RodRecord :=
  [rodAt 2 1 (.exited 1 30 .regrindUnder), rodAt 3 1 (.onTrack 15 2), rodAt 4 0 (.onTrack 3 26),
    rodAt 5 0 .boarding, rodAt 6 0 .staged]

def slots : List (Option Nat) :=
  [none, none, none, some 4, none, none, none, none, none, none, none, none, none, none, none, some 3]

/-- A running line in a step. -/
def busy : State :=
  let s := windowed (windowed stopped 0 2 5 .reporting (some 1)) 1 8 10 .awaiting (some 1)
  { s with
    registry := { rods := rods, lots := lots }
    exitQueue := [2]
    admission := { staging := [6], boarding := .rod 5, running := some 1, mode := .open_,
                   trailing := 2 }
    track := { s.track with
      slots := slots, motion := .running, step := .advancing 20, cadenceCompare := 100,
      cadenceCount := 40, stepNumber := 30 }
    exposure := { interval := 600, counter := 600, tick := 5 }
    pending := [.advanceDone] }

/-- The running line between two steps, with an empty boarding slot and an empty track. -/
def idle : State :=
  { stopped with
    registry := { rods := [rodAt 6 0 .staged], lots := lots }
    admission := { staging := [6], boarding := .empty, running := some 1, mode := .open_,
                   trailing := 2 }
    track := { stopped.track with
      motion := .running, cadenceCompare := 100, cadenceCount := 100, stepNumber := 30 } }

/-- A part with its track controller written. -/
def onTrack (s : State) (f : TrackControl → TrackControl) : State := { s with track := f s.track }

/-- A part with one link channel written. -/
def onLink (s : State) (l : Link) (f : LinkChannel → LinkChannel) : State :=
  { s with links := s.links.set l (f s.links[l]) }

/-- A part with its claims written. -/
def claimed (s : State) (changeover purge reconfigure : Option Link) : State :=
  { s with authority := { s.authority with
      claims := { changeover := changeover, purge := purge, reconfigure := reconfigure } } }

/-- A part with its admission mode written. -/
def moded (s : State) (mode : AdmissionMode) : State :=
  { s with admission := { s.admission with mode := mode } }

/-- The status that a link last answered, if it answered. -/
def answer (s : State) (l : Link) : Option (Status × List Byte) :=
  match s.links[l].sent with
  | [.response status _ payload] => some (status, payload)
  | _ => none

theorem test_classes_of_the_hall :
    hall.links.toList.map (·.class_) =
      [.supervisor, .supervisor, .unbound, .unbound, .spreader, .unbound, .unbound, .stripper,
        .zone 0, .zone 1, .unbound, .unbound] := by decide

/-! ## Ill-formed commands -/

theorem test_discarded_frame_does_not_end_in_truncated :
    (Instr.frameDiscarded 3 .truncated).wellFormed = false := by decide

theorem test_discarded_frame_does_not_end_in_contention :
    (Instr.frameDiscarded 3 .contention).wellFormed = false := by decide

theorem test_discarded_frame_ends_in_check :
    (Instr.frameDiscarded 3 .check).wellFormed = true := by decide

/-- An ill-formed discard changes nothing (log entry 22). -/
theorem test_ill_formed_discard : after (.frameDiscarded 3 .truncated) hall = hall := by decide

theorem test_no_table_word_spells_a_command : decodeTableWord 24 0x013E7E = none := rfl

/-! ## Command frames, written out from the request table -/

theorem test_frame_start : commandFrame (.start 0) = some [0x7E, 0x30, 0xD0] := by decide

theorem test_frame_open_lot :
    readFrame 4 [0x7E, 0x10, 0x00, 0x01, 0x02, 0x05, 0xE8] = some (.ok (.openLot 4 0x000102 5)) := by
  decide

theorem test_frame_climate :
    readFrame 8 [0x7E, 0x51, 0x01, 0x02, 0x58, 0x32, 0x07, 0x1B] =
      some (.ok (.climate 8 1 600 50 7)) := by decide

theorem test_frame_with_a_wrong_check :
    readFrame 8 [0x7E, 0x51, 0x01, 0x02, 0x58, 0x32, 0x07, 0x1C] = some (.error .check) := by decide

theorem test_frame_of_an_unknown_code : readFrame 0 [0x7E, 0x54] = some (.error .unknown) := by
  decide

/-- ACCEPTED without attention: status and attention 0, check 0 (R176). -/
theorem test_frame_accepted : (Frame.response .accepted false []).bytes = [0x7E, 0, 0, 0] := by decide

/-- REFUSED RANGE with attention: 8Ch, 01h, and the check that makes the sum 0 (R176). -/
theorem test_frame_refused :
    (Frame.response (.refused .range) true []).bytes = [0x7E, 0x8C, 0x01, 0x73] := by decide

/-! ## What each command does -/

theorem test_link_status :
    answer (after (.linkStatus 8) hall) 8 = some (.data, [0x08, 2, 0, 0, 0xFF, 0, 0]) := by decide

theorem test_seek :
    (after (.seek 0 7 0xFFFF) hall).links[0].cursor = some { space := .rod, index := 65535 } := by
  decide

theorem test_read_without_a_cursor :
    answer (after (.read 0 1 0) hall) 0 = some (.refused .state, []) := by decide

theorem test_stream_record :
    (after (.streamRecord 0) (onLink stopped 0 fun c =>
      { c with transmitter := .streaming { left := 1, advance := true, sent := 4 },
               cursor := some { space := .claims, index := 2 } })).links[0].sent =
      [.record .claims 2 [2, 0xFF, 1], .trailer 5] := by decide

theorem test_transmit_complete :
    (after (.transmitComplete 0) (after (.silence 0) hall)).links[0].transmitter = .idle := by decide

theorem test_open_lot :
    answer (after (.openLot 4 12 1) busy) 4 = some (.data, [3]) ∧
      (after (.openLot 4 12 1) busy).registry.lots[0] = lotOf .closed 7 1 3 false none 0 ∧
      (after (.openLot 4 12 1) busy).registry.lots[3] = lotOf .opened 12 1 0 false none 0 := by
  decide

theorem test_close_lot :
    (after (.closeLot 4) busy).registry.lots[0] = lotOf .closed 7 1 3 false none 0 := by decide

theorem test_hold_lot :
    (after (.holdLot 0 11) busy).registry.lots[2] = lotOf .closed 11 2 0 true none 1 := by decide

theorem test_release_lot :
    (after (.releaseLot 0 11) (after (.holdLot 1 11) busy)).registry.lots = lots := by decide

theorem test_fold_lot :
    (after (.foldLot 0 7 11) busy).registry.lots[0] = lotOf .opened 7 1 3 false (some 2) 0 ∧
      (after (.foldLot 0 7 11) busy).registry.lots[2] = lotOf .closed 11 2 0 false none 2 := by
  decide

/-- Lot 11 holds no rod: with its last referrer gone it is freed (R10, R15). -/
theorem test_unfold_lot :
    (after (.unfoldLot 0 9) busy).registry.lots[1] = lotOf .closed 9 1 2 false none 0 ∧
      (after (.unfoldLot 0 9) busy).registry.lots[2] = none := by decide

theorem test_hang :
    (after (.hang 4 1) busy).admission.staging = [6, 1] ∧
      (after (.hang 4 1) busy).rod 1 = some { rodAt 1 0 .staged with hangStep := 30 } ∧
      (after (.hang 4 1) busy).registry.lots[0] = lotOf .opened 7 1 4 false none 0 := by decide

theorem test_withdraw :
    (after (.withdraw 4 6) busy).admission.staging = [] ∧
      (after (.withdraw 4 6) busy).rod 6 = none ∧
      (after (.withdraw 4 6) busy).registry.lots[0] = lotOf .opened 7 1 2 false none 0 := by decide

theorem test_withdraw_of_the_boarding_rod :
    answer (after (.withdraw 4 5) busy) 4 = some (.refused .tooLate, []) := by decide

/-- Format 3 dries otherwise than format 1, so its lead gap of 5 is required; format 2 is not (R79). -/
theorem test_changeover :
    (after (.changeover 4 3) (claimed busy (some 4) none none)).admission.mode = .changeover 3 5 ∧
      (after (.changeover 4 2) (claimed busy (some 4) none none)).admission.mode =
        .changeover 2 0 := by decide

theorem test_cancel_changeover :
    (after (.cancelChangeover 4) (moded (claimed busy (some 4) none none)
      (.changeover 3 5))).admission.mode = .open_ := by decide

theorem test_start : (after (.start 0) stopped).track.motion = .running := by decide

theorem test_start_under_the_hold_line :
    (after (.start 0) (onTrack stopped fun t => { t with holdLine := true })).track.motion = .held ∧
      (after (.start 0) (onTrack stopped fun t => { t with holdLine := true })).track.causes =
        { line := true } := by decide

theorem test_hold : (after (.hold 0) busy).track.motion = .holding := by decide

theorem test_hold_between_steps : (after (.hold 0) idle).track.motion = .held := by decide

theorem test_resume : (after (.resume 1) (after (.hold 0) busy)).track = busy.track := by decide

theorem test_stop : (after (.stop 0) idle).track.motion = .stopped := by decide

theorem test_set_cadence :
    (after (.setCadence 0 40) busy).track.cadenceCount = 0 ∧
      (after (.setCadence 0 41) busy).track.cadenceCount = 40 := by decide

theorem test_confirm_step :
    (after (.confirmStep 0) (onTrack busy fun t =>
      { t with step := .suspended, motion := .held })).rod 4 =
      some { rodAt 4 0 (.onTrack 4 26) with
        marks := { lateShift := true }, grade := .noted } := by decide

theorem test_abandon_step :
    (after (.abandonStep 0) (onTrack busy fun t =>
      { t with step := .suspended, motion := .held })).admission.staging = [5, 6] := by decide

/-- Rod 2: lot 9, format 1, dose 0, CLEAN, no mark, REGRIND_UNDER, exit step 30 (R130, R184). -/
theorem test_take :
    answer (after (.take 7) busy) 7 =
      some (.data, [0, 2, 0, 0, 9, 1, 0, 0, 0, 0, 0, 0, 2, 0, 0, 0, 30]) := by decide

theorem test_confirm :
    (after (.confirm 7 2) busy).exitQueue = [] ∧ (after (.confirm 7 2) busy).rod 2 = none ∧
      (after (.confirm 7 2) busy).registry.lots[1] = lotOf .closed 9 1 1 false (some 2) 0 := by
  decide

theorem test_setpoint :
    answer (after (.setpoint 8) busy) 8 =
      some (.data, [0, 1, 0x02, 0x58, 10, 30, 50, 3, 8]) := by decide

/-- 61.1 degrees lies beyond the tolerance of 1.0 and within the limit of 3.0: MINOR (R106). -/
theorem test_climate :
    (after (.climate 8 1 611 50 7) busy).zones.channels[0].reportClass = .minor ∧
      (after (.climate 8 1 610 50 7) busy).zones.channels[0].reportClass = .ok ∧
      (after (.climate 8 1 631 50 7) busy).zones.channels[0].reportClass = .major := by decide

theorem test_climate_of_another_format :
    answer (after (.climate 8 2 600 50 7) busy) 8 = some (.refused .scheduleChanged, []) := by decide

theorem test_quiet : (after (.quiet 8 1) hall).links[8].quiet = true := by decide

theorem test_trim_setpoint :
    ((after (.trimSetpoint 0 1 0 650 60) busy).format 1).map (·.schedules[0]) =
      some { schedule with temperature := 650, humidity := 60 } := by decide

theorem test_claim :
    (after (.claim 4 0) busy).authority.claims.changeover = some 4 ∧
      answer (after (.claim 4 1) busy) 4 = some (.refused .class_, []) := by decide

theorem test_release :
    (after (.release 0 2) editing).authority.claims.reconfigure = none := by decide

theorem test_purge :
    (after (.purge 0) (claimed busy none (some 0) none)).authority.drain = true ∧
      (after (.purge 0) (claimed idle none (some 0) none)).track.motion = .stopped := by decide

theorem test_lock_config :
    (after (.lockConfig 0) editing).authority.lock = true ∧
      (after (.lockConfig 0) editing).authority.claims.reconfigure = none := by decide

theorem test_set_track_length :
    (after (.setTrackLength 0 16) editing).track.length = 16 ∧
      answer (after (.setTrackLength 0 15) editing) 0 = some (.refused .range, []) := by decide

/-- The limit of a window is at most L - 2 (R93). -/
theorem test_set_window :
    (after (.setWindow 0 1 3 14) (onTrack editing fun t =>
      { t with slots := List.replicate 16 none })).zones.channels[1].state = .awaiting ∧
      answer (after (.setWindow 0 1 3 15) (onTrack editing fun t =>
        { t with slots := List.replicate 16 none })) 0 = some (.refused .range, []) := by decide

/-- The operands of format 4 with doses of 100 to 200. -/
def operand4 : FormatOperand :=
  { format := 4, isDefined := 1, dryingClass := 7, leadGap := 255, doseMinimum := 100,
    doseMaximum := 200, tolerance := 1
    schedules := Vector.replicate 8
      { temperature := 600, temperatureTolerance := 10, temperatureLimit := 30, humidity := 50,
        humidityTolerance := 3, humidityLimit := 8 } }

theorem test_set_format :
    ((after (.setFormat 0 operand4) editing).format 4).map (·.leadGap) = some 255 ∧
      answer (after (.setFormat 0 { operand4 with dryingClass := 8 }) editing) 0 =
        some (.refused .range, []) := by decide

theorem test_set_interval :
    (after (.setInterval 0 2 65535) editing).track.exitWaitLimit = 65535 ∧
      answer (after (.setInterval 0 1 0) editing) 0 = some (.refused .range, []) := by decide

theorem test_set_route :
    (after (.setRoute 0 12 3) hall).router.routes[11] = .stop ∧
      answer (after (.setRoute 0 13 3) hall) 0 = some (.refused .range, []) := by decide

theorem test_silence :
    (after (.silence 0) { hall with router := { hall.router with horn := true } }).router.horn =
      false := by decide

/-- A stray arrival is class 6, routed to NONE; a check error is class 12, routed to NOTE (R164). -/
theorem test_read_notes :
    answer (after (.readNotes 0) (after (.frameDiscarded 4 .check)
        (after (.openingMarkReceived 4) hall))) 0 =
      some (.data, [1, 12, 0, 0, 0, 0, 0, 0, 0, 0, 0, 0, 0, 0, 0,
        1, 2, 1, 2, 1, 0, 2, 1, 1, 1, 0, 1]) := by decide

theorem test_clear_capture :
    (after (.clearCapture 0 0) (after (.climate 8 1 611 50 7) busy)).router.captures[0] =
      { record := none, minorSeen := false, majorSeen := false } := by decide

/-- A frame under way is discarded with its error; in HUNT, and after a device reset, there is none
(R177, R187). -/
theorem test_frame_discarded :
    (after (.frameDiscarded 4 .parity) (after (.openingMarkReceived 4) hall)).links[4].lastError =
        .link .parity ∧
      after (.frameDiscarded 4 .parity) hall = hall ∧
      after (.frameDiscarded 4 .check)
        (after (.deviceReset straps) (after (.openingMarkReceived 4) hall)) = hall := by decide

/-- A link in BODY. -/
def inBody (s : State) (l : Link) (gap : Nat) (bytes : List Byte) : State :=
  onLink s l fun c => { c with receiver := .body gap bytes }

theorem test_truncated :
    (after (.truncated 4) (inBody hall 4 3 [])).links[4].lastError = .link .truncated ∧
      after (.truncated 4) (inBody hall 4 2 []) = inBody hall 4 2 [] := by decide

/-- The two orders of the last row of R187, two base ticks after the opening mark: a 7Eh after the
third tick finds the frame TRUNCATED and starts a new one; one before it is taken in BODY. -/
theorem test_inter_byte_limit :
    let late := after (.openingMarkReceived 4) (after .baseTick (inBody hall 4 2 []))
    late.links[4].receiver = .body 0 [] ∧ late.links[4].lastError = .link .truncated ∧
      (after (.openingMarkReceived 4) (inBody hall 4 2 [])).links[4].lastError = .link .unknown := by
  decide

/-- The base tick itself ends a frame that is past its limit, and counts for one that is not. -/
theorem test_base_tick_limits :
    (after .baseTick (inBody hall 4 3 [])).links[4].receiver = .hunt ∧
      (after .baseTick (inBody hall 4 3 [])).links[4].lastError = .link .truncated ∧
      (after .baseTick (inBody hall 4 1 [])).links[4].receiver = .body 2 [] := by decide

/-- A 7Eh as an operand, as a check that balances (SEEK of rod 121) and as one that does not. -/
theorem test_mark_in_body :
    (after (.openingMarkReceived 0) (inBody hall 0 2 [0x02, 7])).links[0].receiver =
        .body 0 [0x02, 7, 0x7E] ∧
      (after (.openingMarkReceived 0) (inBody hall 0 2 [0x02, 7, 0, 121])).links[0].cursor =
        some { space := .rod, index := 121 } ∧
      (after (.openingMarkReceived 0) (inBody hall 0 2 [0x02, 7, 0, 120])).links[0].lastError =
        .link .check := by decide

theorem test_contention :
    (after (.contention 0) (after (.silence 0) hall)).links[0].lastError = .link .contention := by
  decide

theorem test_break :
    (after (.lineBreak 4) (moded (claimed busy (some 4) none none)
      (.changeover 3 5))).authority.claims.changeover = none ∧
      (after (.lineBreak 4) (moded (claimed busy (some 4) none none)
        (.changeover 3 5))).admission.mode = .open_ := by decide

/-- Of two links strapped SPREADER the lower keeps the class (R174). -/
theorem test_device_reset :
    (after (.deviceReset #v[1, 1, 1, 2, 2, 3, 3, 8, 15, 8, 0, 7]) busy).links.toList.map
        (fun c => (c.class_, c.lastError)) =
      [(.supervisor, .clear), (.supervisor, .clear), (.unbound, .bindConflict),
        (.spreader, .clear), (.unbound, .bindConflict), (.stripper, .clear),
        (.unbound, .bindConflict), (.zone 0, .clear), (.zone 7, .clear),
        (.unbound, .bindConflict), (.unbound, .clear), (.unbound, .clear)] := by decide

theorem test_hold_line_rise :
    (after .holdLineRise idle).track.motion = .held ∧
      (after .holdLineRise stopped).track.causes = {} := by decide

theorem test_hold_line_fall :
    (after .holdLineFall (after .holdLineRise idle)).track.motion = .held ∧
      (after .holdLineFall (after .holdLineRise idle)).track.causes = {} := by decide

/-- Rod 3 leaves at step 31: no dose, so REGRIND_UNDER; rod 5 enters at position 0 (R33, R132). -/
theorem test_advance_done :
    (after .advanceDone busy).track.slots = some 5 :: slots.take 15 ∧
      (after .advanceDone busy).exitQueue = [2, 3] ∧
      (after .advanceDone busy).rod 3 = some (rodAt 3 1 (.exited 2 31 .regrindUnder)) ∧
      (after .advanceDone busy).rod 5 = some (rodAt 5 0 (.onTrack 0 31)) := by decide

theorem test_advance_done_settles :
    (after .advanceDone busy).track.step = .settling 10 ∧
      (after .advanceDone busy).admission.trailing = 0 := by decide

theorem test_advance_done_fall :
    (after .advanceDoneFall (after .advanceDone busy)).track.advanceDoneLine = false := by decide

theorem test_cadence_expiry :
    (after .cadenceExpiry idle).track.step = .advancing 50 ∧
      (after .cadenceExpiry idle).admission.boarding = .rod 6 := by decide

theorem test_settle_expiry :
    (after .settleExpiry (onTrack idle fun t => { t with step := .settling 0 })).track.step = .idle :=
  by decide

theorem test_advance_limit_expiry :
    (after .advanceLimitExpiry (onTrack busy fun t => { t with step := .advancing 0 })).track.step =
        .suspended ∧
      (after .advanceLimitExpiry (onTrack busy fun t =>
        { t with step := .advancing 0 })).track.causes = { motion := true } := by decide

theorem test_exit_wait_expiry :
    (after .exitWaitExpiry (onTrack idle fun t => { t with step := .exitWait 0 })).track.causes =
      { exit := true } := by decide

/-- Rod 4 stands in zone 0, which reports 7 units a tick; rod 3 stands in no zone (R118, R119). -/
theorem test_exposure_tick :
    ((after .exposureTick busy).rod 4).map (·.dose) = some 7 ∧
      ((after .exposureTick busy).rod 3).map (·.dose) = some 0 ∧
      (after .exposureTick busy).exposure = { interval := 600, counter := 0, tick := 6 } := by decide

/-- The exposure tick that is due is taken first; then every count rises. -/
theorem test_base_tick :
    (after .baseTick busy).track.step = .advancing 19 ∧
      (after .baseTick busy).track.cadenceCount = 41 ∧
      (after .baseTick busy).exposure = { interval := 600, counter := 1, tick := 6 } := by decide

/-- The mark starts a frame; a second 7Eh is taken as its command code, and a third starts the next
frame (R177). -/
theorem test_opening_mark_received :
    let begun := after (.openingMarkReceived 4) hall
    let unknown := after (.openingMarkReceived 4) begun
    begun.links[4].receiver = .body 0 [] ∧ unknown.links[4].receiver = .hunt ∧
      unknown.links[4].lastError = .link .unknown ∧
      (after (.openingMarkReceived 4) unknown).links[4].receiver = .body 0 [] := by decide

theorem test_line_returned_to_marking :
    (after (.lineReturnedToMarking 4) (after (.lineBreak 4) hall)).links[4].spacing = false := by
  decide

theorem test_step_of_an_empty_queue : step hall = .next hall := rfl

/-! ## A state with every invariant: the running line in a step -/

theorem busy_rod (id : Nat) :
    busy.rod id =
      if id = 2 then some (rodAt 2 1 (.exited 1 30 .regrindUnder))
      else if id = 3 then some (rodAt 3 1 (.onTrack 15 2))
      else if id = 4 then some (rodAt 4 0 (.onTrack 3 26))
      else if id = 5 then some (rodAt 5 0 .boarding)
      else if id = 6 then some (rodAt 6 0 .staged) else none := by
  by_cases h2 : id = 2
  · subst h2; rfl
  by_cases h3 : id = 3
  · subst h3; rfl
  by_cases h4 : id = 4
  · subst h4; rfl
  by_cases h5 : id = 5
  · subst h5; rfl
  by_cases h6 : id = 6
  · subst h6; rfl
  simp only [h2, h3, h4, h5, h6, if_false]
  show findRod rods id = none
  simp only [findRod, rods, List.find?_eq_none, List.mem_cons, List.not_mem_nil, or_false]
  intro r hr
  rcases hr with rfl | rfl | rfl | rfl | rfl <;> simp [rodAt] <;> omega

theorem busy_has_motionInv : MotionInv busy := by
  constructor <;> decide

theorem busy_has_claimInv : ClaimInv busy := by
  refine ⟨?_, ?_, ?_, .inl rfl, ?_, ?_, ?_, ?_⟩
  · intro l h; cases h
  · intro l h; cases h
  · intro l h; cases h
  · intro h; cases h
  · intro p g h; cases h
  · intro h; cases h
  · intro h; cases h

theorem busy_windows {z : Zone} {p : Nat} (h : busy.zones.channels[z].covers p = true) :
    (z = 0 ∧ 2 ≤ p ∧ p ≤ 5) ∨ (z = 1 ∧ 8 ≤ p ∧ p ≤ 10) := by
  have all : ∀ z : Zone, (busy.zones.channels[z].base, busy.zones.channels[z].limit) =
      if z = 0 then (2, 5) else if z = 1 then (8, 10) else (1, 0) := by decide
  have w := all z
  simp only [ZoneChannel.covers, Bool.and_eq_true, decide_eq_true_eq] at h
  split at w
  · next e => simp only [Prod.mk.injEq] at w; exact .inl ⟨e, by omega⟩
  · split at w
    · next e => simp only [Prod.mk.injEq] at w; exact .inr ⟨e, by omega⟩
    · simp only [Prod.mk.injEq] at w; omega

theorem busy_has_zoneInv : ZoneInv busy := by
  refine ⟨by decide, by decide, by decide, by decide, by decide, by decide, ?_, ?_⟩
  · intro z w p hz hw
    have a := busy_windows hz
    have b := busy_windows hw
    rcases a with ⟨rfl, _⟩ | ⟨rfl, _⟩ <;> rcases b with ⟨rfl, _⟩ | ⟨rfl, _⟩ <;> first | rfl | omega
  · intro z p h
    have a := busy_windows h
    show p < 16
    omega

theorem busy_has_rodInv : RodInv busy := by
  refine ⟨by decide, by decide, by decide, by decide, by decide⟩

theorem busy_has_placeInv : PlaceInv busy := by
  have rod := busy_rod
  refine ⟨?_, ?_, ?_, ?_, by decide, by decide, by decide, by decide, by decide, by decide, ?_⟩
  · intro id
    rw [rod]
    show id ∈ [6] ↔ _
    repeat' split
    all_goals simp [rodAt, *]
  · intro id
    rw [rod]
    show Boarding.rod 5 = .rod id ↔ _
    repeat' split
    all_goals simp [rodAt, *]
    omega
  · intro id p
    rw [rod]
    show slots[p]? = some (some id) ↔ _
    have at_p : slots[p]? = some (some id) ↔ (p = 3 ∧ id = 4) ∨ (p = 15 ∧ id = 3) := by
      rcases Nat.lt_or_ge p 16 with hp | hp
      · interval_cases p <;> simp [slots, eq_comm]
      · rw [List.getElem?_eq_none (by simpa [slots] using hp)]
        simp only [reduceCtorEq, false_iff]
        omega
    rw [at_p]
    repeat' split
    all_goals simp [rodAt, *]
    all_goals omega
  · intro id
    rw [rod]
    show id ∈ [2] ↔ _
    repeat' split
    all_goals simp [rodAt, *]
  · intro id r hr
    rw [rod] at hr
    repeat' split at hr
    all_goals cases hr
    all_goals simp [rodAt]

theorem busy_has_lotInv : LotInv busy := by
  have some_lot : ∀ (i : Fin 32) (l : Lot), busy.registry.lots[i] = some l →
      (i = 0 ∧ lotOf .opened 7 1 3 false none 0 = some l) ∨
      (i = 1 ∧ lotOf .closed 9 1 2 false (some 2) 0 = some l) ∨
      (i = 2 ∧ lotOf .closed 11 2 0 false none 1 = some l) := by
    have all : ∀ i : Fin 32, busy.registry.lots[i] =
        if i = 0 then lotOf .opened 7 1 3 false none 0
        else if i = 1 then lotOf .closed 9 1 2 false (some 2) 0
        else if i = 2 then lotOf .closed 11 2 0 false none 1 else none := by decide
    intro i l h
    rw [all i] at h
    split at h
    · next e => exact .inl ⟨e, h⟩
    · split at h
      · next e => exact .inr (.inl ⟨e, h⟩)
      · split at h
        · next e => exact .inr (.inr ⟨e, h⟩)
        · cases h
  refine ⟨?_, by decide, ?_, ?_, by decide, ?_, ?_, ?_, ?_⟩
  · intro i l h
    rcases some_lot i l h with ⟨rfl, e⟩ | ⟨rfl, e⟩ | ⟨rfl, e⟩ <;> cases e <;> decide
  · intro i l h
    rcases some_lot i l h with ⟨rfl, e⟩ | ⟨rfl, e⟩ | ⟨rfl, e⟩ <;> cases e <;> decide
  · intro i l f h hf
    rcases some_lot i l h with ⟨rfl, e⟩ | ⟨rfl, e⟩ | ⟨rfl, e⟩ <;> cases e <;> cases hf; decide
  · intro i j l m h k n
    rcases some_lot i l h with ⟨rfl, e⟩ | ⟨rfl, e⟩ | ⟨rfl, e⟩ <;>
      rcases some_lot j m k with ⟨rfl, e'⟩ | ⟨rfl, e'⟩ | ⟨rfl, e'⟩ <;> cases e <;> cases e' <;>
      first | rfl | (simp at n)
  · intro i l h
    rcases some_lot i l h with ⟨rfl, e⟩ | ⟨rfl, e⟩ | ⟨rfl, e⟩ <;> cases e <;> decide
  · intro i l h
    rcases some_lot i l h with ⟨rfl, e⟩ | ⟨rfl, e⟩ | ⟨rfl, e⟩ <;> cases e <;> decide
  · intro f h
    cases h
    decide

/-! ## The hypotheses of the statements are met -/

/-- A line that suspended its step. -/
def suspended : State :=
  onTrack busy fun t => { t with step := .suspended, motion := .held, causes := { motion := true } }

theorem suspended_has_placeInv : PlaceInv suspended :=
  have h := busy_has_placeInv
  ⟨h.staged, h.boarding, h.onTrack, h.exited, h.stagedOnce, h.exitedOnce, h.stagingRoom,
    h.exitRoom, by decide, by decide, h.untouched⟩

/-- A part with the rods of the running line has its rod table right. -/
theorem rodInv_of_busy {s : State} (h : s.registry = busy.registry) : RodInv s := by
  have b := busy_has_rodInv
  constructor <;> rw [h]
  exacts [b.sorted, b.ids, b.grade, b.dose, b.offSchedule]

/-- A drain whose last step boards a gap on an empty track. -/
def draining : State :=
  { idle with
    registry := { rods := [rodAt 6 0 .staged], lots := lots }
    admission := { idle.admission with boarding := .gap, mode := .closed }
    authority := { idle.authority with
      drain := true, claims := { changeover := none, purge := some 0, reconfigure := none } }
    track := { idle.track with step := .advancing 20 } }

theorem draining_has_rodInv : RodInv draining := by
  refine ⟨by decide, by decide, by decide, by decide, by decide⟩

theorem draining_rod (id : Nat) :
    draining.rod id = if id = 6 then some (rodAt 6 0 .staged) else none := by
  by_cases h : id = 6
  · subst h; rfl
  · simp only [h, if_false]
    show findRod [rodAt 6 0 .staged] id = none
    simp only [findRod, List.find?_eq_none, List.mem_cons, List.not_mem_nil, or_false]
    rintro r rfl
    simp [rodAt]
    omega

theorem draining_has_placeInv : PlaceInv draining := by
  have rod := draining_rod
  refine ⟨?_, ?_, ?_, ?_, by decide, by decide, by decide, by decide, by decide, by decide, ?_⟩
  · intro id
    rw [rod]
    show id ∈ [6] ↔ _
    split
    all_goals simp [rodAt, *]
  · intro id
    rw [rod]
    show Boarding.gap = .rod id ↔ _
    split
    all_goals simp [rodAt]
  · intro id p
    rw [rod]
    show (List.replicate 16 (none : Option Nat))[p]? = some (some id) ↔ _
    rw [List.getElem?_replicate]
    repeat' split
    all_goals simp [rodAt]
  · intro id
    rw [rod]
    show id ∈ [] ↔ _
    split
    all_goals simp [rodAt]
  · intro id r hr
    rw [rod] at hr
    split at hr
    all_goals cases hr
    simp [rodAt]

/-! ### The step and every command -/

theorem witness_StepRunsTheFrontCommand : hall.pending = [] ∧ busy.pending ≠ [] := by decide

theorem witness_EveryCommandCompletes : ∀ s, Instr.start 0 ≠ .deviceReset s := by nofun

theorem witness_RequestsThatAreNotTaken :
    (request (.start 4) = some (4, 0x30, []) ∧ hall.ready 4 ∧
      mayIssue (0x30 : Byte).toNat hall.links[4].class_ = false) ∧
    (after (.lineBreak 4) hall).links[4].spacing = true ∧
    ((after (.closeLot 4) hall).links[4].spacing = false ∧
      (after (.closeLot 4) hall).links[4].transmitter ≠ .idle ∧
      (after (.closeLot 4) hall).links[4].contended = false) ∧
    ((after (.contention 4) (after (.closeLot 4) hall)).links[4].transmitter ≠ .idle ∧
      (after (.contention 4) (after (.closeLot 4) hall)).links[4].spacing = false ∧
      (after (.contention 4) (after (.closeLot 4) hall)).links[4].contended = true) := by decide

/-! ### Device reset -/

/-- Every strap code that the statement tells apart, with a conflict for each class. -/
def conflicting : Vector (BitVec 4) 12 := #v[1, 1, 1, 2, 2, 3, 3, 8, 15, 8, 0, 4]

/-- How many lower-numbered links are strapped as a link is. -/
def lowerAlike (l : Link) : Nat :=
  ((List.finRange 12).filter fun o => decide (o < l ∧ conflicting[o] = conflicting[l])).length

theorem witness_DeviceResetGivesTheResetValues :
    exec (.deviceReset conflicting) busy = .next (after (.deviceReset conflicting) busy) :=
  rfl

theorem witness_StrapsOfEveryClass :
    (lowerAlike 1 = 1 ∧ lowerAlike 2 = 2 ∧ lowerAlike 3 = 0 ∧ lowerAlike 4 = 1 ∧
      lowerAlike 5 = 0 ∧ lowerAlike 6 = 1) ∧
    (conflicting[7].toNat = 8 + (0 : Zone).val ∧ lowerAlike 7 = 0) ∧
    (conflicting[8].toNat = 8 + (7 : Zone).val ∧ lowerAlike 8 = 0) ∧
    (conflicting[9].toNat = 8 + (0 : Zone).val ∧ lowerAlike 9 = 1) ∧
    conflicting[10] = 0 ∧ conflicting[11].toNat = 4 := by decide

/-! ### Invariants -/

theorem witness_StepKeepsMotion :
    MotionInv busy ∧ step busy = .next (after .advanceDone { busy with pending := [] }) :=
  ⟨busy_has_motionInv, rfl⟩

theorem witness_StepKeepsClaims :
    MotionInv busy ∧ ClaimInv busy ∧
      step busy = .next (after .advanceDone { busy with pending := [] }) :=
  ⟨busy_has_motionInv, busy_has_claimInv, rfl⟩

theorem witness_StepKeepsZones :
    ZoneInv busy ∧ step busy = .next (after .advanceDone { busy with pending := [] }) :=
  ⟨busy_has_zoneInv, rfl⟩

theorem witness_StepKeepsRods :
    RodInv busy ∧ step busy = .next (after .advanceDone { busy with pending := [] }) ∧
      busy.rod 3 = some (rodAt 3 1 (.onTrack 15 2)) ∧
      (after .advanceDone { busy with pending := [] }).rod 3 =
        some (rodAt 3 1 (.exited 2 31 .regrindUnder)) :=
  ⟨busy_has_rodInv, rfl, rfl, by decide⟩

theorem witness_StepKeepsPlaces :
    MotionInv busy ∧ PlaceInv busy ∧
      step busy = .next (after .advanceDone { busy with pending := [] }) :=
  ⟨busy_has_motionInv, busy_has_placeInv, rfl⟩

theorem witness_StepKeepsLots :
    RodInv busy ∧ LotInv busy ∧
      step busy = .next (after .advanceDone { busy with pending := [] }) :=
  ⟨busy_has_rodInv, busy_has_lotInv, rfl⟩

theorem witness_MovingLineKeepsItsConfiguration :
    MotionInv busy ∧ busy.track.motion ≠ .stopped ∧
      (∀ s, Instr.trimSetpoint 0 1 0 650 60 ≠ .deviceReset s) ∧
      exec (.trimSetpoint 0 1 0 650 60) busy = .next (after (.trimSetpoint 0 1 0 650 60) busy) ∧
      busy.authority.formats[(0 : Fin 16)] = some (entry 1 3) ∧
      (after (.trimSetpoint 0 1 0 650 60) busy).authority.formats[(0 : Fin 16)].isSome = true :=
  ⟨busy_has_motionInv, by decide, by nofun, rfl, by decide, by decide⟩

/-! ### Frames and records -/

theorem witness_CommandFrameIsReadBack :
    request (.openLot 4 0xFFFFFF 0) = some (4, 0x10, [0xFF, 0xFF, 0xFF, 0]) ∧
      commandFrame (.openLot 4 0xFFFFFF 0) = some [0x7E, 0x10, 0xFF, 0xFF, 0xFF, 0, 0xF3] := by
  decide

theorem witness_RecordsHaveTheirLengths :
    (busy.track.slots[3]? = some (some 4) ∧ busy.rod 4 = some (rodAt 4 0 (.onTrack 3 26)) ∧
      busy.track.slots[0]? = some none ∧ busy.authority.formats[(0 : Fin 16)] = some (entry 1 3) ∧
      busy.authority.formats[(15 : Fin 16)] = none ∧ busy.admission.staging[0]? = some 6 ∧
      busy.rod 6 = some (rodAt 6 0 .staged) ∧
      busy.registry.lots[(0 : Fin 32)] = lotOf .opened 7 1 3 false none 0 ∧
      busy.exitQueue[0]? = some 2 ∧ busy.rod 2 = some (rodAt 2 1 (.exited 1 30 .regrindUnder)) ∧
      busy.registry.lots[(1 : Fin 32)] = lotOf .closed 9 1 2 false (some 2) 0 ∧
      busy.rod 65535 = none ∧ busy.registry.lots[(31 : Fin 32)] = none ∧
      busy.router.captures[(7 : Zone)].record = none ∧
      (after (.climate 8 1 611 50 7) busy).router.captures[(0 : Zone)].record.isSome = true) ∧
    busy.holdsRecord .ident 0 = true ∧ busy.holdsRecord .motion 0 = true ∧
    busy.holdsRecord .track 15 = true ∧ busy.holdsRecord .zone 7 = true ∧
    busy.holdsRecord .format 16 = true ∧ busy.holdsRecord .staging 0 = true ∧
    busy.holdsRecord .staging 1 = true ∧ busy.holdsRecord .exit 0 = true ∧
    busy.holdsRecord .rod 65535 = true ∧ busy.holdsRecord .lot 31 = true ∧
    busy.holdsRecord .capture 7 = true ∧ busy.holdsRecord .claims 2 = true := by decide

/-! ### Lots -/

/-- The reasons of the statement about OPEN_LOT. -/
def openReason (s : State) (number : BitVec 24) (format : Byte) : Option Reason :=
  firstReason
    [(decide (number.toNat = 0 ∨ format.toNat = 0 ∨ 16 < format.toNat), .range),
     ((s.format format.toNat).isNone, .notFound),
     (decide (¬ namesNoLot s.registry.lots number.toNat), .duplicate),
     (decide (∀ i : Fin 32, s.registry.lots[i].isSome = true), .full)]

def fullOfLots : State :=
  busy.withLots (Vector.ofFn fun i : Fin 32 => lotOf .closed (100 + i.val) 1 1 false none 0)

theorem witness_OpenAndCloseLot :
    (busy.readyAs 4 .spreader ∧ openReason busy 0 1 = some .range ∧
      openReason busy 12 0 = some .range ∧ openReason busy 12 17 = some .range ∧
      openReason busy 12 16 = some .notFound ∧ openReason busy 7 1 = some .duplicate ∧
      fullOfLots.readyAs 4 .spreader ∧ openReason fullOfLots 12 1 = some .full ∧
      openReason busy 12 1 = none ∧ busy.registry.lots[(3 : Fin 32)] = none ∧
      (∀ j : Fin 32, j < 3 → busy.registry.lots[j].isSome = true)) ∧
    (hall.readyAs 4 .spreader ∧ (∀ i : Fin 32, isOpenLot hall.registry.lots[i] = false)) ∧
    (busy.registry.lots[(0 : Fin 32)] = lotOf .opened 7 1 3 false none 0 ∧
      (∀ j : Fin 32, isOpenLot busy.registry.lots[j] = true → j = 0)) := by decide

theorem witness_HoldAndReleaseLotWriteTheHeldFlag :
    busy.readyAs 0 .supervisor ∧ namesNoLot busy.registry.lots 8 ∧ namesNoLot busy.registry.lots 0 ∧
      busy.registry.lots[(2 : Fin 32)] = lotOf .closed 11 2 0 false none 1 ∧
      namesLot busy.registry.lots 11 2 := by decide

/-- The reasons of the statement about FOLD_LOT. -/
def foldReason (s : State) (numberA numberB : BitVec 24) : Option Reason :=
  let lots := s.registry.lots
  firstReason
    [(decide (numberA.toNat = 0 ∨ numberB.toNat = 0), .range),
     (decide (namesNoLot lots numberA.toNat), .notFound),
     (decide (namesNoLot lots numberB.toNat), .notFound),
     (decide (numberA = numberB), .range),
     ((lotIndexOf lots numberA.toNat).any fun a => (lots[a].bind (·.forward)).isSome, .state)]

/-- The reasons of the statement about UNFOLD_LOT. -/
def unfoldReason (s : State) (number : BitVec 24) : Option Reason :=
  let lots := s.registry.lots
  firstReason
    [(decide (number.toNat = 0), .range),
     (decide (namesNoLot lots number.toNat), .notFound),
     ((lotIndexOf lots number.toNat).any fun a => (lots[a].bind (·.forward)).isNone, .state)]

theorem witness_FoldAndUnfoldLot :
    (busy.readyAs 0 .supervisor ∧ foldReason busy 7 0 = some .range ∧
      foldReason busy 8 7 = some .notFound ∧ foldReason busy 7 8 = some .notFound ∧
      foldReason busy 7 7 = some .range ∧ foldReason busy 9 7 = some .state ∧
      foldReason busy 7 11 = none ∧ namesLot busy.registry.lots 7 0 ∧
      namesLot busy.registry.lots 11 2) ∧
    (unfoldReason busy 0 = some .range ∧ unfoldReason busy 8 = some .notFound ∧
      unfoldReason busy 7 = some .state ∧ unfoldReason busy 9 = none ∧
      busy.registry.lots[(1 : Fin 32)] = lotOf .closed 9 1 2 false (some 2) 0 ∧
      namesLot busy.registry.lots 9 1 ∧
      busy.registry.lots[(2 : Fin 32)] = lotOf .closed 11 2 0 false none 1) := by decide

/-- A spent entry that forwards to one with a single referrer. -/
def spentLots : LotTable :=
  (lots.set 1 (lotOf .closed 9 1 0 false (some 2) 0)).set 3 (lotOf .closed 13 1 0 false none 0)

theorem witness_FreeingCascadeFollowsTheForwards :
    lots[(31 : Fin 32)] = none ∧
    lots[(1 : Fin 32)] = lotOf .closed 9 1 2 false (some 2) 0 ∧
    spentLots[(3 : Fin 32)] = lotOf .closed 13 1 0 false none 0 ∧
    (spentLots[(1 : Fin 32)] = lotOf .closed 9 1 0 false (some 2) 0 ∧
      spentLots[(2 : Fin 32)] = lotOf .closed 11 2 0 false none 1) ∧
    freeIfSpent spentLots 1 = (spentLots.set 1 none).set 2 none := by decide

/-! ### Admission -/

/-- The reasons of the statement about HANG. -/
def hangReason (s : State) (rod : BitVec 16) : Option Reason :=
  let openFormat : Option Nat :=
    (openLotIndex s.registry.lots).bind fun i => s.registry.lots[i].map (·.format)
  firstReason
    [(decide (rod.toNat = 0), .range),
     (decide (4 ≤ s.admission.staging.length +
        (match s.admission.boarding with | .rod _ => 1 | .gap => 0 | .empty => 0)), .full),
     ((s.rod rod.toNat).isSome, .duplicate),
     (openFormat.isNone, .noLot),
     (s.admission.running.isSome && decide (openFormat ≠ s.admission.running) &&
        (match s.admission.mode with
          | .changeover p _ => decide (openFormat ≠ some p)
          | .open_ => true
          | .closed => true), .wrongFormat)]

/-- A part whose staging queue holds three rods beside the one that boards. -/
def fullStaging : State := { busy with admission := { busy.admission with staging := [6, 7, 8] } }

/-- A part with a running format. -/
def running (s : State) (f : Option Nat) : State :=
  { s with admission := { s.admission with running := f } }

theorem witness_HangStagesTheRod :
    busy.readyAs 4 .spreader ∧ hangReason busy 0 = some .range ∧
    hangReason fullStaging 1 = some .full ∧ hangReason busy 6 = some .duplicate ∧
    hangReason (busy.withLots (Vector.replicate 32 none)) 1 = some .noLot ∧
    hangReason (running busy (some 2)) 1 = some .wrongFormat ∧
    hangReason (moded (running busy (some 2)) (.changeover 3 5)) 1 = some .wrongFormat ∧
    hangReason (moded (running busy (some 2)) (.changeover 1 5)) 1 = none ∧
    hangReason (running busy none) 65535 = none ∧ hangReason busy 1 = none ∧
    openLotIndex busy.registry.lots = some 0 ∧
    busy.registry.lots[(0 : Fin 32)] = lotOf .opened 7 1 3 false none 0 := by decide

theorem witness_WithdrawRemovesAStagedRod :
    busy.readyAs 4 .spreader ∧ busy.rod 1 = none ∧
    busy.rod 5 = some (rodAt 5 0 .boarding) ∧ busy.rod 4 = some (rodAt 4 0 (.onTrack 3 26)) ∧
    busy.rod 2 = some (rodAt 2 1 (.exited 1 30 .regrindUnder)) ∧
    busy.rod 6 = some (rodAt 6 0 .staged) ∧
    busy.registry.lots[(0 : Fin 32)] = lotOf .opened 7 1 3 false none 0 := by decide

/-- The reasons of the statement about CHANGEOVER. -/
def changeoverReason (s : State) (link : Link) (format : Byte) : Option Reason :=
  firstReason
    [(decide (s.authority.claims.changeover ≠ some link), .claim),
     (decide (format.toNat = 0 ∨ 16 < format.toNat), .range),
     (decide (s.admission.mode ≠ .open_), .state),
     (s.admission.running.isNone, .state),
     ((s.format format.toNat).isNone, .notFound),
     (decide (s.admission.running = some format.toNat), .range)]

/-- The running line under the CHANGEOVER claim of the spreader. -/
def spreading : State := claimed busy (some 4) none none

theorem witness_ChangeoverAndItsCancellation :
    (busy.ready 4 ∧ busy.links[4].class_ = .spreader ∧ changeoverReason busy 4 3 = some .claim ∧
      changeoverReason spreading 4 17 = some .range ∧
      changeoverReason (moded spreading .closed) 4 3 = some .state ∧
      changeoverReason (running spreading none) 4 3 = some .state ∧
      changeoverReason spreading 4 16 = some .notFound ∧
      changeoverReason spreading 4 1 = some .range ∧ changeoverReason spreading 4 3 = none ∧
      spreading.format 3 = some (entry 2 5) ∧ spreading.format 1 = some (entry 1 3)) ∧
    (busy.authority.claims.changeover ≠ some 4 ∧ spreading.ready 4 ∧
      spreading.links[4].class_ = .spreader ∧ spreading.authority.claims.changeover = some 4 ∧
      spreading.admission.mode = .open_ ∧ (moded spreading .closed).admission.mode = .closed ∧
      (moded spreading (.changeover 3 5)).admission.mode = .changeover 3 5) := by decide

/-- The staged rod of format 1 as the head of a changeover to format 1 from another. -/
def headOf (mode : AdmissionMode) (f : Option Nat) (trailing : Nat) : State :=
  { busy with admission := { busy.admission with
      running := f, mode := mode, trailing := trailing } }

/-- An exit queue that is full. -/
def fullExit : State := { busy with exitQueue := [2, 10, 11, 12, 13, 14, 15, 16] }

theorem witness_BoardingChoiceAndStepBeginning :
    (hall.admission.staging = [] ∧ busy.admission.staging = [6] ∧
      busy.rod 6 = some (rodAt 6 0 .staged) ∧
      busy.admission.mode = .open_ ∧ busy.admission.running = some 1 ∧
      (headOf (.changeover 1 5) (some 2) 5).boardingChoice = .head 6 ∧
      (headOf (.changeover 1 5) (some 2) 4).boardingChoice = .gap false ∧
      (headOf (.changeover 3 5) (some 2) 5).boardingChoice = .gap true ∧
      (headOf (.changeover 3 5) (some 1) 0).boardingChoice = .head 6 ∧
      (headOf .open_ (some 2) 0).boardingChoice = .gap true ∧
      (headOf .closed (some 1) 0).boardingChoice = .gap false) ∧
    (fullExit.track.lastSlot.isSome = true ∧ 8 ≤ fullExit.exitQueue.length) ∧
    (idle.track.lastSlot = none ∧ busy.exitQueue.length < 8 ∧
      busy.boardingChoice = .head 6 ∧ hall.boardingChoice = .gap true) := by decide

/-! ### Motion -/

/-- The reasons of the statement about START. -/
def startReason (s : State) : Option Reason :=
  firstReason
    [(decide (s.track.motion ≠ .stopped), .state),
     (decide (s.authority.lock = false ∨ s.track.slots = []), .notReady)]

theorem witness_StartRunsAStoppedLine :
    stopped.readyAs 0 .supervisor ∧ startReason busy = some .state ∧
    startReason hall = some .notReady ∧ startReason editing = some .notReady ∧
    startReason stopped = none ∧ stopped.track.holdLine = false ∧
    (onTrack stopped fun t => { t with holdLine := true }).track.holdLine = true ∧
    stopped.track.step = .idle ∧ stopped.track.causes = {} := by decide

theorem witness_HoldAddsTheCommandCause :
    busy.readyAs 0 .supervisor ∧ stopped.track.motion = .stopped ∧
    (after (.hold 0) busy).track.causes.command = true ∧
    (idle.track.motion = .running ∧ idle.track.step = .idle ∧
      idle.track.causes.command = false) ∧
    ((after .advanceDone busy).track.motion = .running ∧
      (after .advanceDone busy).track.step = .settling 10 ∧
      (after .cadenceExpiry (onTrack fullExit fun t =>
        { t with step := .idle, cadenceCount := 100 })).track.step = .exitWait 600) ∧
    (busy.track.motion = .running ∧ busy.track.step = .advancing 20) ∧
    ((after .holdLineRise busy).track.motion = .holding ∧
      (after .holdLineRise busy).track.causes.command = false) ∧
    (suspended.track.motion = .held ∧ suspended.track.causes.command = false) := by decide

theorem witness_ResumeReturnsToRunning :
    busy.readyAs 0 .supervisor ∧ busy.track.motion = .running ∧ stopped.track.motion = .stopped ∧
    (after .holdLineRise busy).track.causes.line = true ∧
    (suspended.track.motion = .held ∧ suspended.track.step = .suspended) ∧
    ((after (.hold 0) idle).track.motion = .held ∧
      (after (.hold 0) idle).track.step ≠ .suspended ∧
      (after (.hold 0) idle).track.causes.line = false) ∧
    ((after (.hold 0) busy).track.motion = .holding ∧
      (after (.hold 0) busy).track.causes.line = false) := by decide

theorem witness_StopStopsAnEmptyIdleLine :
    idle.readyAs 0 .supervisor ∧ busy.track.step ≠ .idle ∧
    (idle.track.motion = .running ∧ (∀ x ∈ idle.track.slots, x = none) ∧
      idle.track.step = .idle ∧ idle.authority.drain = false) ∧
    (onTrack draining fun t => { t with step := .idle }).authority.drain = true ∧
    (∀ x ∈ draining.track.slots, x = none) ∧ draining.track.motion = .running := by decide

theorem witness_SetCadenceSetRouteAndSilence :
    hall.readyAs 0 .supervisor ∧ (13 : Byte).toNat = 13 ∧ (12 : Byte).toNat = (11 : Fin 12).val + 1 ∧
      (3 : Byte).toNat = Destination.stop.code := by decide

/-- The running line with no settling and, if so, a step owed. -/
def unsettled (owed : Bool) : State := onTrack busy fun t => { t with settleInterval := 0, owed := owed }

theorem unsettled_has_placeInv (owed : Bool) : PlaceInv (unsettled owed) :=
  have h := busy_has_placeInv
  ⟨h.staged, h.boarding, h.onTrack, h.exited, h.stagedOnce, h.exitedOnce, h.stagingRoom,
    h.exitRoom, h.exitRoomKept, h.bound, h.untouched⟩

/-- The running line put on hold in its step. -/
def holding : State :=
  onTrack busy fun t => { t with motion := .holding, causes := { command := true } }

theorem holding_has_placeInv : PlaceInv holding :=
  have h := busy_has_placeInv
  ⟨h.staged, h.boarding, h.onTrack, h.exited, h.stagedOnce, h.exitedOnce, h.stagingRoom,
    h.exitRoom, h.exitRoomKept, h.bound, h.untouched⟩

/-- The running line whose exit rod is of a lot on hold, with QUARANTINE routed to STOP. -/
def quarantining : State :=
  { busy with
    registry := { busy.registry with
      lots := busy.registry.lots.set 1 (lotOf .closed 9 1 2 true (some 2) 0) }
    router := { busy.router with
      routes := busy.router.routes.set EventClass.quarantine.index .stop } }

/-- The taken rod is quarantined, and its event stops the line with the step dropped from its
settling (R55, case 1, R131). -/
theorem test_quarantine_stops_the_line :
    (after .advanceDone quarantining).track.motion = .held ∧
      (after .advanceDone quarantining).track.step = .idle ∧
      (after .advanceDone quarantining).track.causes = { event := true } ∧
      ((after .advanceDone quarantining).rod 3).map (·.marks) = some { lotHeld := true } ∧
      ((after .advanceDone quarantining).rod 4).map (·.marks) = some {} := by decide

theorem witness_AdvanceDoneAppliesTheShift :
    (RodInv busy ∧ PlaceInv busy ∧ busy.track.advanceDoneLine = false ∧
      busy.track.step = .advancing 20 ∧ busy.track.motion = .running ∧ busy.drainEnds = false ∧
      busy.track.settleInterval ≠ 0) ∧
    (PlaceInv draining ∧ RodInv draining ∧ draining.track.step = .advancing 20 ∧
      draining.track.motion = .running ∧ draining.drainEnds = true) ∧
    (RodInv holding ∧ PlaceInv holding ∧ holding.track.motion = .holding ∧
      holding.track.step = .advancing 20 ∧ holding.drainEnds = false) ∧
    (RodInv (unsettled false) ∧ PlaceInv (unsettled false) ∧
      (unsettled false).track.settleInterval = 0 ∧ (unsettled false).track.owed = false ∧
      (unsettled false).drainEnds = false) ∧
    (RodInv (unsettled true) ∧ PlaceInv (unsettled true) ∧ (unsettled true).track.owed = true ∧
      (unsettled true).drainEnds = false) ∧
    (RodInv quarantining ∧ PlaceInv quarantining ∧ quarantining.track.step = .advancing 20 ∧
      quarantining.drainEnds = false ∧ quarantining.track.settleInterval ≠ 0 ∧
      quarantining.track.causes.event = false ∧
      ∃ c ∈ quarantining.exitEvents, quarantining.router.routes[c.index] = .stop) :=
  have h := busy_has_placeInv
  have r := busy_has_rodInv
  ⟨⟨r, h, by decide, by decide, by decide, by decide, by decide⟩,
    ⟨draining_has_placeInv, draining_has_rodInv, by decide, by decide, by decide⟩,
    ⟨rodInv_of_busy rfl, holding_has_placeInv, by decide, by decide, by decide⟩,
    ⟨rodInv_of_busy rfl, unsettled_has_placeInv false, by decide, by decide, by decide⟩,
    ⟨rodInv_of_busy rfl, unsettled_has_placeInv true, by decide, by decide⟩,
    ⟨⟨r.sorted, r.ids, r.grade, r.dose, r.offSchedule⟩,
      ⟨h.staged, h.boarding, h.onTrack, h.exited, h.stagedOnce, h.exitedOnce, h.stagingRoom,
        h.exitRoom, h.exitRoomKept, h.bound, h.untouched⟩, by decide, by decide, by decide,
      by decide, .quarantine, by decide, by decide⟩⟩

theorem witness_PendingFormatBoardingCompletesTheChangeover :
    (busy.track.advanceDoneLine = false ∧ busy.track.step = .advancing 20) ∧
    ((moded busy (.changeover 1 5)).admission.mode = .changeover 1 5 ∧
      busy.admission.boarding = .rod 5 ∧ busy.rod 5 = some (rodAt 5 0 .boarding) ∧
      (rodAt 5 0 .boarding).format = 1) ∧
    (draining.track.advanceDoneLine = false ∧ draining.admission.boarding = .gap) ∧
    (suspended.track.advanceDoneLine = false ∧ suspended.track.step = .suspended ∧
      suspended.readyAs 0 .supervisor ∧ suspended.admission.boarding = .rod 5) ∧
    (rodAt 5 0 .boarding).format ≠ 3 := by decide

theorem witness_SuspendedStepIsCompleted :
    RodInv suspended ∧ PlaceInv suspended ∧ suspended.track.step = .suspended ∧
      suspended.track.motion = .held ∧ suspended.track.advanceDoneLine = false ∧
      suspended.readyAs 0 .supervisor ∧ suspended.drainEnds = false :=
  ⟨rodInv_of_busy rfl, suspended_has_placeInv, by decide, by decide, by decide, by decide,
    by decide⟩

/-- A drain whose last step is suspended. -/
def suspendedDrain : State := onTrack draining fun t => { t with step := .suspended, motion := .held }

theorem witness_SuspendedStepThatEndsADrain :
    RodInv suspendedDrain ∧ PlaceInv suspendedDrain ∧ suspendedDrain.track.step = .suspended ∧
      suspendedDrain.track.motion = .held ∧ suspendedDrain.drainEnds = true :=
  have h := draining_has_placeInv
  have r := draining_has_rodInv
  ⟨⟨r.sorted, r.ids, r.grade, r.dose, r.offSchedule⟩,
    ⟨h.staged, h.boarding, h.onTrack, h.exited, h.stagedOnce, h.exitedOnce, h.stagingRoom,
      h.exitRoom, by decide, by decide, h.untouched⟩, by decide, by decide, by decide⟩

theorem witness_AbandonStepReturnsTheBoundRod :
    (busy.readyAs 0 .supervisor ∧ busy.track.step ≠ .suspended) ∧
    (suspended.readyAs 0 .supervisor ∧ suspended.track.step = .suspended ∧
      suspended.admission.boarding = .rod 5) ∧
    ((onTrack draining fun t => { t with step := .suspended }).track.step = .suspended ∧
      draining.readyAs 0 .supervisor ∧ draining.admission.boarding = .gap) := by decide

/-! ### Lines and timers -/

theorem witness_InputLinesActOnTheirEdges :
    (after .advanceDone busy).track.advanceDoneLine = true ∧
    (idle.track.advanceDoneLine = false ∧ (∀ n, idle.track.step ≠ .advancing n) ∧
      idle.track.step ≠ .suspended) ∧
    (after .holdLineRise idle).track.holdLine = true ∧
    (stopped.track.holdLine = false ∧ stopped.track.motion = .stopped) ∧
    (suspended.track.holdLine = false ∧ suspended.track.causes.line = false ∧
      suspended.track.motion = .held) ∧
    (busy.track.holdLine = false ∧ busy.track.causes.line = false ∧
      busy.track.motion = .running ∧ busy.track.step = .advancing 20) ∧
    (idle.track.holdLine = false ∧ idle.track.causes.line = false ∧
      idle.track.motion = .running) := by
  refine ⟨by decide, ⟨by decide, fun n h => (by cases h), by decide⟩, ?_⟩
  decide

/-- The running line with its cadence fallen due. -/
def dueLine (owed : Bool) : State := onTrack busy fun t => { t with cadenceCount := 100, owed := owed }

theorem witness_CadenceExpiryBeginsOrOwesAStep :
    busy.track.cadenceCount < busy.track.cadenceCompare ∧
    (idle.track.motion = .running ∧ idle.track.cadenceCompare ≠ 0 ∧
      idle.track.cadenceCompare ≤ idle.track.cadenceCount ∧ idle.track.step = .idle) ∧
    ((dueLine false).track.motion = .running ∧ (dueLine false).track.cadenceCompare ≠ 0 ∧
      (dueLine false).track.cadenceCompare ≤ (dueLine false).track.cadenceCount ∧
      (dueLine false).track.step ≠ .idle ∧ (dueLine false).track.step ≠ .suspended ∧
      (dueLine false).track.owed = false ∧ (dueLine true).track.owed = true) ∧
    ((onTrack (dueLine false) fun t => { t with motion := .holding }).track.motion = .holding) := by
  decide

theorem witness_StepTimersRunOut :
    busy.track.step ≠ .settling 0 ∧ busy.track.step ≠ .advancing 0 ∧
    busy.track.step ≠ .exitWait 0 ∧
    (onTrack idle fun t => { t with step := .settling 0 }).track.step = .settling 0 ∧
    (onTrack idle fun t => { t with step := .settling 0 }).track.owed = false ∧
    (onTrack idle fun t => { t with step := .settling 0, owed := true }).track.owed = true ∧
    (onTrack busy fun t => { t with step := .advancing 0 }).track.step = .advancing 0 ∧
    (onTrack idle fun t => { t with step := .exitWait 0 }).track.step = .exitWait 0 := by decide

/-! ### Exposure -/

/-- Zone 0 with a state and a staleness count. -/
def staleAt (state : ZoneState) (staleness : Nat) : State :=
  busy.withChannel 0 { busy.zones.channels[(0 : Zone)] with state := state, staleness := staleness }

theorem witness_ExposureTick :
    (idle.exposure.interval = 0 ∧
      busy.exposure.interval ≠ 0 ∧ busy.exposure.interval ≤ busy.exposure.counter) ∧
    (busy.zones.channels[(7 : Zone)].state = .off ∧
      ¬ busy.zones.stalenessLimit ≤ min 255 ((staleAt .reporting 4).zones.channels[(0 : Zone)].staleness + 1) ∧
      busy.zones.stalenessLimit ≤ min 255 ((staleAt .reporting 5).zones.channels[(0 : Zone)].staleness + 1) ∧
      (staleAt .reporting 5).exposure.interval ≤ (staleAt .reporting 5).exposure.counter ∧
      (∀ z : Zone, ¬ (((staleAt .reporting 4).zones.channels[z].state = .awaiting ∨
          (staleAt .reporting 4).zones.channels[z].state = .reporting) ∧
        busy.zones.stalenessLimit ≤
          min 255 ((staleAt .reporting 4).zones.channels[z].staleness + 1)))) ∧
    ((rodAt 4 0 (.onTrack 3 26)).place = .onTrack 3 26 ∧
      busy.zones.channels[(0 : Zone)].covers 3 = true ∧
      (∀ w : Zone, busy.zones.channels[w].covers 3 = true → w = 0) ∧
      (∀ z : Zone, busy.zones.channels[z].covers 15 = false) ∧
      busy.zones.channels[(0 : Zone)].state = .reporting ∧
      busy.zones.channels[(0 : Zone)].report =
        some { format := 1, temperature := 600, humidity := 50, doseRate := 7 } ∧
      busy.zones.channels[(1 : Zone)].covers 10 = true ∧
      (∀ w : Zone, busy.zones.channels[w].covers 10 = true → w = 1) ∧
      busy.zones.channels[(1 : Zone)].state = .awaiting ∧
      (staleAt .stale 6).zones.channels[(0 : Zone)].state = .stale) ∧
    ({ lotHeld := true } : Marks).has .lotHeld = true ∧ ({} : Marks).has .chainFault = false := by
  decide

/-- A zone that grows STALE at a tick with ZONE_STALE routed to STOP: a note, the horn, and the hold
that lets the advance under way go on (R55, R109). -/
theorem test_stale_stops_the_line :
    let s := staleAt .reporting 5
    let t := after .exposureTick
      { s with router := { s.router with routes := s.router.routes.set EventClass.zoneStale.index .stop } }
    t.zones.channels[(0 : Zone)].state = .stale ∧ t.router.horn = true ∧
      t.track.causes.event = true ∧ t.track.motion = .holding ∧
      t.router.notes[(0 : Link)][EventClass.zoneStale.index] = true := by decide

/-- A saturating dose, and an off-schedule count that goes beyond the tolerance of 2 (R119, R121). -/
theorem test_exposure_saturates :
    (busy.exposeRod { rodAt 4 0 (.onTrack 5 26) with dose := 4194300 }).dose = 4194303 ∧
      (busy.exposeRod { rodAt 4 0 (.onTrack 2 26) with format := 3, offSchedule := 2 }).marks =
        { offSchedule := true } ∧
      (busy.exposeRod { rodAt 4 0 (.onTrack 2 26) with format := 3, offSchedule := 1 }).marks = {} ∧
      ((staleAt .stale 6).exposeRod (rodAt 4 0 (.onTrack 3 26))).marks = { unmonitored := true } := by
  decide

/-! ### Exit -/

theorem test_disposition :
    dispositionOf .clean 99 100 200 = .regrindUnder ∧ dispositionOf .clean 100 100 200 = .cut ∧
      dispositionOf .noted 200 100 200 = .cutNoted ∧ dispositionOf .noted 201 100 200 = .regrindOver ∧
      dispositionOf .suspect 150 100 200 = .quarantine := by decide

/-- The head rod's lot, its chain, or a chain of six entries held. -/
def chainOf (s : State) (second : Option Lot) : State :=
  s.withLots (lots.set 2 second)

/-- Five entries that each forward to the next, lot 1 first. -/
def longChain : State :=
  busy.withLots (((((lots.set 2 (lotOf .closed 11 2 0 false (some 3) 1)).set 3
    (lotOf .closed 13 1 0 false (some 4) 1)).set 4 (lotOf .closed 15 1 0 false (some 5) 1)).set 5
    (lotOf .closed 17 1 0 false (some 6) 1)).set 6 (lotOf .closed 19 1 0 false none 1))

theorem witness_TakeResolvesTheHeadAgain :
    hall.readyAs 7 .stripper ∧ hall.exitQueue = [] ∧
    (busy.readyAs 7 .stripper ∧ busy.exitQueue = [2] ∧
      busy.rod 2 = some (rodAt 2 1 (.exited 1 30 .regrindUnder)) ∧
      resolveChain busy.registry.lots 1 = .clear) ∧
    resolveChain (chainOf busy (lotOf .closed 11 2 0 true none 1)).registry.lots 1 = .lotHeld ∧
    resolveChain longChain.registry.lots 1 = .chainFault := by decide

theorem witness_TakeHasItsRodInv : RodInv longChain := by
  refine ⟨by decide, by decide, by decide, by decide, by decide⟩

/-- The reasons of the statement about CONFIRM. -/
def confirmReason (s : State) (rod : BitVec 16) : Option Reason :=
  firstReason
    [(decide (rod.toNat = 0), .range),
     (decide (rod.toNat ∉ s.exitQueue), .notFound),
     (decide (s.exitQueue.head? ≠ some rod.toNat), .mismatch)]

theorem witness_ConfirmRemovesTheHead :
    busy.readyAs 7 .stripper ∧ confirmReason busy 0 = some .range ∧
    confirmReason busy 3 = some .notFound ∧ confirmReason fullExit 10 = some .mismatch ∧
    confirmReason busy 2 = none ∧ busy.rod 2 = some (rodAt 2 1 (.exited 1 30 .regrindUnder)) ∧
    busy.registry.lots[(1 : Fin 32)] = lotOf .closed 9 1 2 false (some 2) 0 ∧
    confirmReason fullExit 2 = none ∧
    (onTrack fullExit fun t => { t with step := .exitWait 5 }).track.step = .exitWait 5 := by decide

/-- The form of CONFIRM that starts no step has a step that does not wait. -/
theorem witness_ConfirmWithoutAWait : ∀ n, busy.track.step ≠ .exitWait n := fun n h => by cases h

/-! ### Zones -/

theorem witness_GoverningFormatAndRecomputation :
    (busy.track.slots[3]? = some (some 4) ∧ busy.rod 4 = some (rodAt 4 0 (.onTrack 3 26)) ∧
      (∀ q : Fin 16, 3 < q.val → q.val ≤ 14 → busy.track.occupied q = false) ∧
      busy.governingFormat 2 5 = some 1 ∧ busy.governingFormat 8 14 = some 1) ∧
    ((∀ q : Fin 16, q.val ≤ 15 → idle.track.occupied q = false) ∧
      idle.governingFormat 2 5 = some 1) ∧
    (busy.zones.channels[(7 : Zone)].enabled = false ∧
      (busy.zones.channels[(0 : Zone)].enabled = true ∧
        busy.zones.channels[(0 : Zone)].governing = busy.governingFormat 2 5) ∧
      (stopped.zones.channels[(0 : Zone)].enabled = true ∧
        (running stopped (some 2)).zones.channels[(0 : Zone)].governing ≠
          (running stopped (some 2)).governingFormat 2 5)) := by decide

/-- A capture record of a class. -/
def captured (k : ReportClass) : CaptureRecord :=
  { reportClass := k, governing := 1, temperature := 611, humidity := 50,
    temperatureSetpoint := 600, humiditySetpoint := 50, tick := 5, stepNumber := 30 }

/-- A MAJOR report replaces a MINOR one, and nothing replaces a MAJOR one (R171). -/
theorem test_capture_offer :
    (({ record := none, minorSeen := false, majorSeen := false } : Capture).offer
        (captured .minor)) =
      { record := some (captured .minor), minorSeen := true, majorSeen := false } ∧
    (({ record := some (captured .minor), minorSeen := true, majorSeen := false } : Capture).offer
        (captured .major)) =
      { record := some (captured .major), minorSeen := true, majorSeen := true } ∧
    (({ record := some (captured .major), minorSeen := false, majorSeen := true } : Capture).offer
        (captured .minor)) =
      { record := some (captured .major), minorSeen := true, majorSeen := true } := by decide

theorem witness_SetpointAndQuiet :
    (stopped.readyAs 8 (.zone 0) ∧ stopped.zones.channels[(0 : Zone)].governing = none) ∧
    (busy.readyAs 8 (.zone 0) ∧ busy.zones.channels[(0 : Zone)].governing = some 1 ∧
      busy.format 1 = some (entry 1 3)) ∧
    (1 < (2 : Byte).toNat ∧ (1 : Byte).toNat ≤ 1) := by decide

/-- The reasons of the statement about CLIMATE. -/
def climateReason (s : State) (z : Zone) (format : Byte) (temperature : BitVec 16)
    (humidity : Byte) : Option Reason :=
  firstReason
    [(decide (16 < format.toNat ∨ 1500 < temperature.toNat ∨ 100 < humidity.toNat), .range),
     (decide (s.zones.channels[z].state = .off), .state),
     (decide (format.toNat ≠ s.zones.channels[z].governing.getD 0), .scheduleChanged)]

/-- A part with a quiet link. -/
def quieted (s : State) (l : Link) : State := onLink s l fun c => { c with quiet := true }

theorem witness_ClimateIsTakenOrRefused :
    busy.readyAs 8 (.zone 0) ∧ climateReason busy 0 17 600 50 = some .range ∧
    climateReason busy 0 1 1501 50 = some .range ∧ climateReason busy 0 1 600 101 = some .range ∧
    climateReason hall 0 1 1500 100 = some .state ∧
    climateReason busy 0 16 1500 100 = some .scheduleChanged ∧
    climateReason busy 0 1 1500 100 = none ∧ busy.links[8].quiet = false ∧
    (quieted busy 8).readyAs 8 (.zone 0) ∧ (quieted busy 8).links[8].quiet = true ∧
    climateReason stopped 0 0 600 50 = none ∧
    stopped.zones.channels[(0 : Zone)].governing = none ∧
    busy.zones.channels[(0 : Zone)].governing = some 1 ∧ busy.format 1 = some (entry 1 3) := by
  decide

theorem witness_TrimSetpointWritesTwoSetpoints :
    busy.readyAs 0 .supervisor ∧
    answer (after (.trimSetpoint 0 1 8 650 60) busy) 0 = some (.refused .range, []) ∧
    answer (after (.trimSetpoint 0 1 0 199 60) busy) 0 = some (.refused .range, []) ∧
    answer (after (.trimSetpoint 0 1 0 1101 60) busy) 0 = some (.refused .range, []) ∧
    answer (after (.trimSetpoint 0 1 0 650 9) busy) 0 = some (.refused .range, []) ∧
    answer (after (.trimSetpoint 0 1 0 650 96) busy) 0 = some (.refused .range, []) ∧
    answer (after (.trimSetpoint 0 16 0 650 60) busy) 0 = some (.refused .notFound, []) ∧
    answer (after (.trimSetpoint 0 1 7 1100 95) busy) 0 = some (.accepted, []) ∧
    busy.authority.formats[(0 : Fin 16)] = some (entry 1 3) := by decide

/-! ### Authority and configuration -/

theorem witness_ClaimIsAnsweredByTheFirstLine :
    busy.ready 0 ∧ busy.links[0].class_ = .supervisor ∧ busy.ready 4 ∧
    busy.links[4].class_ = .spreader ∧
    answer (after (.claim 0 3) busy) 0 = some (.refused .range, []) ∧
    answer (after (.claim 4 2) busy) 4 = some (.refused .class_, []) ∧
    answer (after (.claim 4 0) spreading) 4 = some (.accepted, []) ∧
    answer (after (.claim 0 0) spreading) 0 = some (.refused .claimedElsewhere, []) ∧
    answer (after (.claim 0 1) spreading) 0 = some (.refused .state, []) ∧
    answer (after (.claim 0 2) busy) 0 = some (.refused .state, []) ∧
    (after (.claim 0 2) stopped).authority.lock = false := by decide

theorem witness_ReleaseEndsTheClaimAndItsWork :
    busy.ready 4 ∧ busy.links[4].class_ = .spreader ∧
    answer (after (.release 4 3) spreading) 4 = some (.refused .range, []) ∧
    answer (after (.release 4 0) busy) 4 = some (.refused .claim, []) ∧
    answer (after (.release 0 1) busy) 0 = some (.refused .claim, []) ∧
    answer (after (.release 0 2) busy) 0 = some (.refused .claim, []) ∧
    answer (after (.release 4 0) spreading) 4 = some (.accepted, []) ∧
    (draining.ready 0 ∧ draining.authority.claims.purge = some 0 ∧ draining.authority.drain = true) ∧
    (editing.ready 0 ∧ editing.authority.claims.reconfigure = some 0) := by decide

/-- The running line under the PURGE claim of SL0. -/
def purging (s : State) : State := claimed s none (some 0) none

theorem witness_PurgeClosesAdmissionAndDrains :
    busy.readyAs 0 .supervisor ∧
    answer (after (.purge 0) busy) 0 = some (.refused .claim, []) ∧
    answer (after (.purge 0) draining) 0 = some (.refused .state, []) ∧
    answer (after (.purge 0) (purging stopped)) 0 = some (.refused .state, []) ∧
    answer (after (.purge 0) (purging holding)) 0 = some (.refused .state, []) ∧
    (answer (after (.purge 0) (purging busy)) 0 = some (.accepted, []) ∧
      busy.track.step ≠ .idle) ∧
    (answer (after (.purge 0) (purging idle)) 0 = some (.accepted, []) ∧
      idle.track.step = .idle ∧ ∀ x ∈ idle.track.slots, x = none) := by decide

theorem witness_EditsAndLockConfig :
    (stopped.readyAs 0 .supervisor ∧ stopped.authority.lock = true) ∧
    (hall.readyAs 0 .supervisor ∧ hall.authority.lock = false ∧
      hall.authority.claims.reconfigure ≠ some 0) ∧
    (editing.readyAs 0 .supervisor ∧ editing.authority.lock = false ∧
      editing.authority.claims.reconfigure = some 0) ∧
    (∃ length, Instr.setTrackLength 0 16 = .setTrackLength 0 length) :=
  ⟨by decide, by decide, by decide, _, rfl⟩

/-- A hall under reconfiguration with 16 positions and zone 0 over 2..5. -/
def windowEditing : State :=
  windowed (onTrack editing fun t => { t with slots := List.replicate 16 none }) 0 2 5 .awaiting none

theorem witness_SetTrackLengthAndSetInterval :
    (editing.readyAs 0 .supervisor ∧ editing.authority.lock = false ∧
      editing.authority.claims.reconfigure = some 0) ∧
    (answer (after (.setTrackLength 0 1025) editing) 0 = some (.refused .range, []) ∧
      answer (after (.setTrackLength 0 1024) editing) 0 = some (.accepted, []) ∧
      answer (after (.setTrackLength 0 16) (windowed editing 0 2 16 .awaiting none)) 0 =
        some (.refused .range, []) ∧
      answer (after (.setTrackLength 0 17) (windowed editing 0 2 16 .awaiting none)) 0 =
        some (.accepted, [])) ∧
    (answer (after (.setInterval 0 5 1) editing) 0 = some (.refused .range, []) ∧
      answer (after (.setInterval 0 0 255) editing) 0 = some (.accepted, []) ∧
      answer (after (.setInterval 0 0 256) editing) 0 = some (.refused .range, []) ∧
      answer (after (.setInterval 0 1 255) editing) 0 = some (.accepted, []) ∧
      answer (after (.setInterval 0 2 0) editing) 0 = some (.refused .range, []) ∧
      answer (after (.setInterval 0 3 0) editing) 0 = some (.accepted, []) ∧
      answer (after (.setInterval 0 4 256) editing) 0 = some (.refused .range, []) ∧
      answer (after (.setInterval 0 4 1) editing) 0 = some (.accepted, [])) := by
  refine ⟨?_, ?_, ?_⟩ <;> decide

theorem witness_SetWindowMovesAWindow :
    (windowEditing.readyAs 0 .supervisor ∧ windowEditing.authority.lock = false ∧
      windowEditing.authority.claims.reconfigure = some 0) ∧
    (answer (after (.setWindow 0 8 0 0) windowEditing) 0 = some (.refused .range, []) ∧
      answer (after (.setWindow 0 1 1024 0) windowEditing) 0 = some (.refused .range, [])) ∧
    (answer (after (.setWindow 0 1 5 14) windowEditing) 0 = some (.refused .range, []) ∧
      (after (.setWindow 0 1 6 14) windowEditing).zones.channels[(1 : Zone)].state = .awaiting) ∧
    (windowEditing.zones.channels[(0 : Zone)].enabled = true ∧
      (after (.setWindow 0 0 0 14) windowEditing).zones.channels[(0 : Zone)].changed = false ∧
      (after (.setWindow 0 0 1 0) windowEditing).zones.channels[(0 : Zone)].state = .off) ∧
    (windowEditing.zones.channels[(1 : Zone)].enabled = false ∧
      (after (.setWindow 0 1 1023 0) windowEditing).zones.channels[(1 : Zone)].base = 1023) := by
  decide

theorem witness_SetFormatWritesTheEntry :
    (editing.readyAs 0 .supervisor ∧ editing.authority.lock = false ∧
      editing.authority.claims.reconfigure = some 0) ∧
    (answer (after (.setFormat 0 { operand4 with format := 17 }) editing) 0 =
        some (.refused .range, []) ∧
      answer (after (.setFormat 0 { operand4 with isDefined := 2 }) editing) 0 =
        some (.refused .range, []) ∧
      answer (after (.setFormat 0 { operand4 with doseMinimum := 201 }) editing) 0 =
        some (.refused .range, [])) ∧
    (answer (after (.setFormat 0 { operand4 with format := 1, isDefined := 0 })
          (editing.withLots lots)) 0 = some (.refused .state, []) ∧
      answer (after (.setFormat 0 { operand4 with format := 3, isDefined := 0 })
          (editing.withLots lots)) 0 = some (.accepted, []) ∧
      (after (.setFormat 0 { operand4 with format := 3, isDefined := 0 })
        (editing.withLots lots)).format 3 = none) ∧
    (after (.setFormat 0 { operand4 with format := 16 }) editing).authority.formats[(15 : Fin 16)] =
      some (formatEntryOf { operand4 with format := 16 }) := by decide

/-! ### Events, horn, notes and captures -/

/-- Class 1, DEV_MINOR, routed to a destination. -/
def routed (s : State) (d : Destination) : State :=
  { s with router := { s.router with routes := s.router.routes.set 0 d } }

theorem witness_RaisesApplyTheirDestination :
    (routed busy .nowhere).router.routes[EventClass.devMinor.index] = .nowhere ∧
    (routed busy .note).router.routes[EventClass.devMinor.index] = .note ∧
    (routed busy .horn).router.routes[EventClass.devMinor.index] = .horn ∧
    ((routed stopped .stop).router.routes[EventClass.devMinor.index] = .stop ∧
      (routed stopped .stop).track.motion = .stopped) ∧
    ((routed busy .stop).track.causes.event = false ∧ (routed busy .stop).track.motion = .running ∧
      (routed busy .stop).track.step = .advancing 20 ∧
      ((routed busy .stop).route .devMinor).track.motion = .holding) ∧
    (((routed busy .stop).route .devMinor).track.causes.event = true) ∧
    ((routed holding .stop).track.motion = .holding ∧
      (routed holding .stop).track.causes.event = false) ∧
    ((routed idle .stop).track.step = .idle ∧
      ((routed idle .stop).route .devMinor).track.motion = .held) := by decide

theorem witness_ReadNotesAndAttention :
    hall.readyAs 0 .supervisor ∧ hall.links[0].class_ = .supervisor ∧
    hall.links[8].class_ = .zone 0 ∧ hall.links[4].class_ = .spreader ∧
    hall.links[7].class_ = .stripper ∧ hall.links[2].class_ = .unbound ∧
    (after (.frameDiscarded 4 .check) (after (.openingMarkReceived 4) hall)).attention 0 = true := by
  decide

theorem witness_ClearCaptureEmptiesTheCapture :
    hall.readyAs 0 .supervisor ∧ 7 < (8 : Byte).toNat ∧ (7 : Byte).toNat = (7 : Zone).val := by decide

/-! ### Links -/

/-- A quiet refusal and a link error as LINK_STATUS shows them on SL8, the station of zone 0, and the
response on the line (R174, R175, R176, R179). -/
theorem test_link_status_shows_the_codes :
    let status (e : LastError) : Option (Status × List Byte) :=
      answer (after (.linkStatus 8) (onLink hall 8 fun c => { c with lastError := e })) 8
    status (.refusal .scheduleChanged) = some (.data, [0x08, 2, 0, 0x8F, 0xFF, 0, 0]) ∧
      status (.link .contention) = some (.data, [0x08, 2, 0, 0x06, 0xFF, 0, 0]) ∧
      (Frame.response (.refused .tier) true []).bytes = [0x7E, 0x82, 0x01, 0x7D] := by decide

theorem witness_LinkStatusSeekAndRead :
    hall.ready 0 ∧ spaceTable (11 : Byte).toNat = none ∧
    ((10 : Byte).toNat = Space.claims.code ∧ spaceTable 10 = some (0, 0, 2) ∧
      0 < hall.links[8].class_.tier ∧ hall.ready 8) ∧
    ((4 : Byte).toNat = Space.format.code ∧ spaceTable 4 = some (2, 1, 16) ∧
      answer (after (.seek 0 4 0) hall) 0 = some (.refused .range, []) ∧
      answer (after (.seek 0 4 17) hall) 0 = some (.refused .range, []) ∧
      answer (after (.seek 0 4 16) hall) 0 = some (.accepted, [])) ∧
    (answer (after (.read 0 0 0) hall) 0 = some (.refused .range, []) ∧
      answer (after (.read 0 65 0) hall) 0 = some (.refused .range, []) ∧
      answer (after (.read 0 64 2) hall) 0 = some (.refused .range, []) ∧
      answer (after (.read 0 64 1) (onLink hall 0 fun c =>
        { c with cursor := some { space := .track, index := 0 } })) 0 = some (.data, [])) := by decide

/-- SL0 about to stream, or streaming, `left` records of the rod space from an index. -/
def streamingFrom (space : Space) (index left : Nat) : State :=
  onLink busy 0 fun c =>
    { c with cursor := some { space := space, index := index },
             transmitter := .streaming { left := left, advance := true, sent := 0 } }

theorem witness_IdentRecordIsConstant :
    hall.holdsRecord .ident 0 = true ∧ hall.holdsRecord .ident 1 = false ∧
    (streamingFrom .ident 0 2).links[0].transmitter =
      .streaming { left := 2, advance := true, sent := 0 } ∧
    (streamingFrom .ident 0 2).links[0].cursor = some { space := .ident, index := 0 } := by decide

theorem witness_StreamTurnsAndTheEndOfAResponse :
    (hall.links[0].transmitter = .idle ∧
      (streamingFrom .rod 65535 2).holdsRecord .rod 65535 = true ∧
      (after (.streamRecord 0) (streamingFrom .rod 65535 2)).links[0].cursor =
        some { space := .rod, index := 0 } ∧
      (streamingFrom .rod 0 2).holdsRecord .rod 0 = false ∧
      (after (.streamRecord 0) (streamingFrom .rod 0 2)).links[0].sent = [.trailer 0] ∧
      (streamingFrom .track 15 1).holdsRecord .track 15 = true ∧
      (after (.streamRecord 0) (streamingFrom .track 15 1)).links[0].transmitter = .idle) ∧
    ((after (.silence 0) hall).links[0].transmitter = .responding none ∧
      (after (.read 0 1 0) (onLink busy 0 fun c =>
        { c with cursor := some { space := .track, index := 15 } })).links[0].transmitter =
          .responding (some { left := 1, advance := false, sent := 0 }) ∧
      busy.holdsRecord .track 15 = true ∧ busy.holdsRecord .track 16 = false) := by decide

/-- An idle link neither streams nor responds, so that a turn or an end has no effect. -/
theorem witness_NothingToStream :
    (∀ j, hall.links[0].transmitter ≠ .streaming j) ∧
      ∀ next, hall.links[0].transmitter ≠ .responding next :=
  ⟨fun j h => (by cases h), fun n h => (by cases h)⟩

theorem witness_MarksDiscardsAndErrors :
    (hall.ready 4 ∧ LinkError.unknown ≠ .truncated ∧ LinkError.unknown ≠ .contention) ∧
    ((inBody hall 4 3 []).links[4].receiver = .body 3 [] ∧
      (inBody hall 4 3 []).links[4].spacing = false ∧
      (inBody hall 4 3 []).links[4].transmitter = .idle ∧ hall.links[4].receiver = .hunt) ∧
    ((inBody hall 4 2 []).ready 4 ∧ (inBody hall 4 2 []).links[4].receiver = .body 2 [] ∧
      (inBody hall 0 2 [0x02, 7]).ready 0 ∧ (inBody hall 0 0 [0x02, 7, 0, 121]).ready 0 ∧ operandCount (0x02 : Byte).toNat = some 3 ∧
      ([0x02, 7, 0, 121] : List Byte).sum + 0x7E = 0 ∧
      ([0x02, 7, 0, 120] : List Byte).sum + 0x7E ≠ 0 ∧
      request (.seek 0 7 121) = some (0, 0x02, [7, 0, 121])) ∧
    (after (.lineBreak 4) hall).links[4].spacing = true ∧
    ((after (.closeLot 4) hall).links[4].spacing = false ∧
      (after (.closeLot 4) hall).links[4].transmitter ≠ .idle ∧
      (after (.closeLot 4) hall).links[4].contended = false) ∧
    (after (.openingMarkReceived 4) (after (.closeLot 4) hall)).links[4].contended = true := by decide

theorem witness_BreakResetsTheLink :
    spreading.authority.claims.changeover = some 4 ∧
      (moded spreading (.changeover 3 5)).admission.mode = .changeover 3 5 ∧
      (draining.authority.claims.purge = some 0 ∧ draining.authority.drain = true) ∧
      editing.authority.claims.reconfigure = some 0 := by decide

end Sys2Proof.Tests
end

section
/-! PROOFS. HOLD and RESUME (R53, R58, R59): what a hold cause does in each motion state and step,
what the track controller replies, and the two statements. -/

namespace Sys2Proof.Machine

/-! ## What a hold cause does, by motion state and step (R36, R51) -/

section AddCause
variable {k : Cause} {t : TrackControl}

theorem addCause_of_has (h : t.causes.has k = true) : t.addCause k = t := by
  rcases addCause_cases k t with ⟨same, _⟩ | ⟨new, _⟩
  · exact same
  · simp [h] at new

/-- A step that is neither ADVANCING nor SUSPENDED is dropped, and the line is HELD at once. -/
theorem addCause_of_waiting (new : t.causes.has k = false) (running : t.motion = .running)
    (waiting : ∀ n, t.step ≠ .advancing n) (notSuspended : t.step ≠ .suspended) :
    t.addCause k = { t with
      motion := .held, causes := t.causes.insert k, step := .idle, owed := false,
      cadenceCount := 0 } := by
  rcases addCause_cases k t with ⟨_, has | stopped⟩ | ⟨_, ⟨_, _, held⟩ | ⟨_, advances, _⟩ | ⟨m, _⟩⟩
  · simp [new] at has
  · simp [running] at stopped
  · rw [held, if_neg notSuspended]
  · obtain ⟨n, advancing⟩ := advances
    exact absurd advancing (waiting n)
  · simp [running] at m

/-- A step in ADVANCING goes on, and the line is HOLDING until its end. -/
theorem addCause_of_advancing {n : Nat} (new : t.causes.has k = false)
    (running : t.motion = .running) (advancing : t.step = .advancing n) :
    t.addCause k = { t with motion := .holding, causes := t.causes.insert k, owed := false } := by
  rcases addCause_cases k t with ⟨_, has | stopped⟩ | ⟨_, ⟨_, waits, _⟩ | ⟨_, _, holding⟩ | ⟨m, _⟩⟩
  · simp [new] at has
  · simp [running] at stopped
  · exact absurd advancing (waits n)
  · exact holding
  · simp [running] at m

/-- On a line that holds already the cause joins the set. -/
theorem addCause_of_onHold (new : t.causes.has k = false)
    (onHold : t.motion = .holding ∨ t.motion = .held) :
    t.addCause k = { t with causes := t.causes.insert k } := by
  rcases addCause_cases k t with ⟨_, has | stopped⟩ | ⟨_, ⟨running, _⟩ | ⟨running, _⟩ | ⟨_, joins⟩⟩
  · simp [new] at has
  · simp [stopped] at onHold
  · simp [running] at onHold
  · simp [running] at onHold
  · exact joins

end AddCause

/-! ## Requests of a supervisor at the track controller -/

section Requests
variable {s : State} {link : Link}

theorem isSupervisor_of_readyAs (h : s.readyAs link .supervisor) :
    isSupervisor s.links[link].class_ = true :=
  decide_eq_true h.2

/-- A request that the owning block refuses is answered with the reason and changes nothing else. -/
theorem serve_supervisor_refuse {body : State → Reply} {r : Reason}
    (h : s.readyAs link .supervisor)
    (b : body (s.endFrame link) = refuse (s.endFrame link) r) :
    s.serve link isSupervisor body = s.answered link (.refused r) :=
  serve_refuse s link h.1 (isSupervisor_of_readyAs h) b

/-- A request that changes the track controller alone is answered from the part with that change. -/
theorem serve_supervisor_mapTrack {body : State → Reply} {change : TrackControl → TrackControl}
    (h : s.readyAs link .supervisor)
    (b : body (s.endFrame link) = accept ((s.endFrame link).mapTrack change)) :
    s.serve link isSupervisor body =
      ({ s with track := change s.track }).answered link .accepted :=
  serve_accept s link (t := s.mapTrack change) h.1 (isSupervisor_of_readyAs h) rfl b

end Requests

/-! ## HOLD (R53) -/

section Hold
variable {s : State} {link : Link}

theorem holdReply_of_stopped (m : s.track.motion = .stopped) : holdReply s = refuse s .state := by
  simp [holdReply, m]

theorem holdReply_of_moving (m : s.track.motion ≠ .stopped) :
    holdReply s = accept (s.mapTrack (TrackControl.addCause .command)) := by
  unfold holdReply
  cases h : s.track.motion with
  | stopped => exact absurd h m
  | running => rfl
  | holding => rfl
  | held => rfl

theorem exec_hold_of_stopped (h : s.readyAs link .supervisor) (m : s.track.motion = .stopped) :
    exec (.hold link) s = .next (s.answered link (.refused .state)) :=
  congrArg Host.Outcome.next (serve_supervisor_refuse h (holdReply_of_stopped m))

/-- Outside STOPPED a HOLD is accepted with the track controller that adding COMMAND gives. -/
theorem exec_hold_of_moving (h : s.readyAs link .supervisor) (m : s.track.motion ≠ .stopped)
    {t : TrackControl} (added : s.track.addCause .command = t) :
    exec (.hold link) s = .next (({ s with track := t }).answered link .accepted) := by
  subst added
  exact congrArg Host.Outcome.next (serve_supervisor_mapTrack h (holdReply_of_moving m))

end Hold

/-- Settles O26, by what adding COMMAND does in each motion state and step. -/
theorem holdAddsTheCommandCause : Obligations.HoldAddsTheCommandCause := by
  intro s link ready
  refine ⟨exec_hold_of_stopped ready, fun m has => ?_, fun m new => ?_, fun m new => ?_⟩
  · exact exec_hold_of_moving ready m (addCause_of_has has)
  · have moving : s.track.motion ≠ .stopped := by simp [m]
    refine ⟨fun idle => ?_, fun n waits => ?_, fun n advancing => ?_⟩
    · exact exec_hold_of_moving ready moving
        (addCause_of_waiting new m (by simp [idle]) (by simp [idle]))
    · rcases waits with settling | exitWait
      · exact exec_hold_of_moving ready moving
          (addCause_of_waiting new m (by simp [settling]) (by simp [settling]))
      · exact exec_hold_of_moving ready moving
          (addCause_of_waiting new m (by simp [exitWait]) (by simp [exitWait]))
    · exact exec_hold_of_moving ready moving (addCause_of_advancing new m advancing)
  · have moving : s.track.motion ≠ .stopped := by rcases m with m | m <;> simp [m]
    exact exec_hold_of_moving ready moving (addCause_of_onHold new m)

/-! ## RESUME (R58, R59) -/

section Resume
variable {s : State} {link : Link}

theorem resumeReply_of_notOnHold (m : s.track.motion = .running ∨ s.track.motion = .stopped) :
    resumeReply s = refuse s .state := by
  rcases m with m | m <;> simp [resumeReply, m]

/-- With the HOLD line among the causes no motion state resumes. -/
theorem resumeReply_of_line (line : s.track.causes.line = true) :
    resumeReply s = refuse s .state := by
  unfold resumeReply
  cases s.track.motion with
  | stopped => rfl
  | running => rfl
  | holding => exact if_pos line
  | held => exact if_pos (.inr line)

theorem resumeReply_of_suspended (m : s.track.motion = .held) (p : s.track.step = .suspended) :
    resumeReply s = refuse s .state := by
  simp [resumeReply, m, p]

theorem resumeReply_of_held (m : s.track.motion = .held) (p : s.track.step ≠ .suspended)
    (line : s.track.causes.line = false) :
    resumeReply s = accept (s.mapTrack TrackControl.resumeHeld) := by
  simp [resumeReply, m, p, line]

theorem resumeReply_of_holding (m : s.track.motion = .holding)
    (line : s.track.causes.line = false) :
    resumeReply s = accept (s.mapTrack TrackControl.resumeHolding) := by
  simp [resumeReply, m, line]

end Resume

/-- Settles O27, by the reply in each motion state: the refusals, and RUNNING from HELD and from
HOLDING. -/
theorem resumeReturnsToRunning : Obligations.ResumeReturnsToRunning := by
  intro s link ready
  refine ⟨fun refused => ?_, fun m p line => ?_, fun m line => ?_⟩
  · have reply : resumeReply (s.endFrame link) = refuse (s.endFrame link) .state := by
      rcases refused with running | stopped | line | ⟨held, suspended⟩
      · exact resumeReply_of_notOnHold (.inl running)
      · exact resumeReply_of_notOnHold (.inr stopped)
      · exact resumeReply_of_line line
      · exact resumeReply_of_suspended held suspended
    exact congrArg Host.Outcome.next (serve_supervisor_refuse ready reply)
  · exact congrArg Host.Outcome.next
      (serve_supervisor_mapTrack ready (resumeReply_of_held m p line))
  · exact congrArg Host.Outcome.next
      (serve_supervisor_mapTrack ready (resumeReply_of_holding m line))

end Sys2Proof.Machine
end

section
/-! PROOFS. TRIM_SETPOINT (R111): when the zone monitor refuses it, what it writes of the format
table, which zones it flags, and the statement. -/

namespace Sys2Proof.Machine

/-! ## What a trim writes and which zones it flags (R102, R111) -/

section Trim
variable {s : State} {i : Fin 16} {z : Zone} {format temperature humidity : Nat}

/-- A format number within 1 to 16 reads the table entry one below it. -/
theorem format_of_eq (f : format = i.val + 1) : s.format format = s.authority.formats[i] := by
  rw [State.format, formatIndex_of_eq f]
  rfl

/-- The flags that the zone monitor sets are those of the statements: a flag set already stays set,
and that of a zone which is off or under another format is left. -/
theorem flagGoverned_eq_scheduleChanged (s : State) (format : Nat) :
    s.flagGoverned format = s.scheduleChanged format := by
  have flag (c : ZoneChannel) :
      (if c.enabled ∧ c.governing = some format then { c with changed := true } else c) =
        { c with changed := c.changed ||
            (c.enabled && decide (c.governing = some format)) } := by
    by_cases governs : c.enabled = true ∧ c.governing = some format
    · simp [governs]
    · have unset : (c.enabled && decide (c.governing = some format)) = false := by
        simpa using governs
      rw [if_neg governs, unset, Bool.or_false]
  simp only [State.flagGoverned, State.mapChannels, State.scheduleChanged, flag]

/-- A trim of a defined format writes the two setpoints into the entry that stands. -/
theorem trimSetpoint_of_entry {entry : FormatEntry} (e : s.authority.formats[i] = some entry) :
    s.trimSetpoint i z temperature humidity =
      { s with authority := { s.authority with
          formats := s.authority.formats.set i (some { entry with
            schedules := entry.schedules.set z { entry.schedules[z] with
              temperature := temperature, humidity := humidity } }) } } := by
  rw [State.trimSetpoint, e]
  rfl

end Trim

/-! ## What the zone monitor replies to TRIM_SETPOINT (R111) -/

section Reply
variable {s : State} {zone : Byte} {format temperature humidity : Nat}

/-- One operand out of its range is enough for RANGE. -/
theorem trimSetpointReply_of_outOfRange
    (out : format = 0 ∨ 16 < format ∨ 7 < zone.toNat ∨ temperature < 200 ∨ 1100 < temperature ∨
      humidity < 10 ∨ 95 < humidity) :
    trimSetpointReply format zone temperature humidity s = refuse s .range := by
  unfold trimSetpointReply
  rcases out with noFormat | noFormat | noZone | setpoints
  · rw [formatIndex_of_out (.inl noFormat)]
  · rw [formatIndex_of_out (.inr noFormat)]
  · rw [zoneOf_of_lt noZone]
    cases formatIndex format <;> rfl
  · have outside : ¬ (inRange 200 1100 temperature && inRange 10 95 humidity) = true := by
      rw [Bool.and_eq_true, inRange_iff, inRange_iff]
      omega
    split
    · exact if_pos outside
    · rfl

/-- With every operand in its range the reply turns on whether the format is defined. -/
theorem trimSetpointReply_of_inRange {i : Fin 16} {z : Zone} (f : format = i.val + 1)
    (n : zone.toNat = z.val) (t : 200 ≤ temperature ∧ temperature ≤ 1100)
    (h : 10 ≤ humidity ∧ humidity ≤ 95) :
    trimSetpointReply format zone temperature humidity s =
      if (s.format format).isNone then refuse s .notFound
      else accept ((s.trimSetpoint i z temperature humidity).flagGoverned format) := by
  simp only [trimSetpointReply, formatIndex_of_eq f, zoneOf_of_eq n,
    (inRange_iff 200 1100 temperature).2 t, (inRange_iff 10 95 humidity).2 h, Bool.and_self,
    not_true_eq_false, if_false]

end Reply

/-- Settles O46, by the checks of TRIM_SETPOINT in order: an operand out of range, an undefined
format, and the trim of a defined one. -/
theorem trimSetpointWritesTwoSetpoints : Obligations.TrimSetpointWritesTwoSetpoints := by
  intro s link format zone temperature humidity ready reason
  refine ⟨fun r refused => ?_, fun accepted i z entry f n e => ?_⟩
  · have reply : trimSetpointReply format.toNat zone temperature.toNat humidity.toNat
        (s.endFrame link) = refuse (s.endFrame link) r := by
      simp only [reason, firstReason_eq_some, firstReason_nil, decide_eq_true_eq,
        decide_eq_false_iff_not] at refused
      rcases refused with ⟨out, rfl⟩ | ⟨within, ⟨undefined, rfl⟩ | ⟨_, noReason⟩⟩
      · exact trimSetpointReply_of_outOfRange out
      · have f : format.toNat = (⟨format.toNat - 1, by omega⟩ : Fin 16).val + 1 := by
          dsimp only
          omega
        have n : zone.toNat = (⟨zone.toNat, by omega⟩ : Zone).val := rfl
        rw [trimSetpointReply_of_inRange f n (by omega) (by omega), format_endFrame]
        exact if_pos undefined
      · cases noReason
    exact congrArg Host.Outcome.next (serve_supervisor_refuse ready reply)
  · simp only [reason, firstReason_eq_none, decide_eq_false_iff_not] at accepted
    obtain ⟨within, defined, _⟩ := accepted
    have reply : trimSetpointReply format.toNat zone temperature.toNat humidity.toNat
        (s.endFrame link) = accept (((s.endFrame link).trimSetpoint i z temperature.toNat
          humidity.toNat).flagGoverned format.toNat) := by
      rw [trimSetpointReply_of_inRange f n (by omega) (by omega), format_endFrame]
      exact if_neg (by simp [defined])
    rw [← trimSetpoint_of_entry e, ← flagGoverned_eq_scheduleChanged]
    exact congrArg Host.Outcome.next (serve_accept s link
      (t := (s.trimSetpoint i z temperature.toNat humidity.toNat).flagGoverned format.toNat)
      ready.1 (isSupervisor_of_readyAs ready) rfl reply)

end Sys2Proof.Machine
end

section
/-! PROOFS. CLAIM (R145, R146): the claim kinds with the classes and the condition of each, what the
authority unit replies on each line of R145, the answer by the first line, and the statement. -/

namespace Sys2Proof.Machine

/-! ## The claim kinds, their classes and their grant conditions (R144, R145) -/

section Kinds
variable {b : Byte} {c : StationClass}

theorem claimKindOf_of_out (out : 3 ≤ b.toNat) : claimKindOf b = none := by
  unfold claimKindOf
  split
  · omega
  · omega
  · omega
  · rfl

theorem claimKindOf_of_zero (zero : b.toNat = 0) : claimKindOf b = some .changeover := by
  simp only [claimKindOf, zero]

theorem claimKindOf_of_one (one : b.toNat = 1) : claimKindOf b = some .purge := by
  simp only [claimKindOf, one]

theorem claimKindOf_of_two (two : b.toNat = 2) : claimKindOf b = some .reconfigure := by
  simp only [claimKindOf, two]

theorem isSupervisorOrSpreader_iff :
    isSupervisorOrSpreader c = true ↔ c = .supervisor ∨ c = .spreader := by
  simp [isSupervisorOrSpreader, isSupervisor, isSpreader]

/-- CHANGEOVER is open to every class that may issue CLAIM. -/
theorem permits_changeover : ClaimKind.changeover.permits c = isSupervisorOrSpreader c := by
  cases c <;> rfl

theorem permits_purge : ClaimKind.purge.permits c = decide (c = .supervisor) := by
  cases c <;> rfl

theorem permits_reconfigure : ClaimKind.reconfigure.permits c = decide (c = .supervisor) := by
  cases c <;> rfl

theorem grantable_reconfigure (s : State) :
    s.grantable .reconfigure = decide (s.track.motion = .stopped ∧ s.track.step = .idle) :=
  (Bool.decide_and _ _).symm

/-- The condition of PURGE by the admission mode. -/
theorem grantable_purge (s : State) :
    s.grantable .purge =
      ((match s.admission.mode with
        | .open_ => true | .closed => true | .changeover _ _ => false) &&
      s.authority.claims.changeover.isNone) := by
  unfold State.grantable
  cases s.admission.mode <;> rfl

theorem grant_endFrame (s : State) (l link : Link) (k : ClaimKind) :
    (s.endFrame link).grant l k = (s.grant l k).endFrame link := by
  cases k <;> rfl

end Kinds

/-! ## What the authority unit replies to CLAIM, line by line (R145) -/

section Reply
variable {s : State} {link : Link} {kind : Byte} {k : ClaimKind}

theorem claimReply_of_out (out : 3 ≤ kind.toNat) : claimReply link kind s = refuse s .range := by
  rw [claimReply, claimKindOf_of_out out]

variable (named : claimKindOf kind = some k)
include named

theorem claimReply_of_notPermitted (forbidden : k.permits s.links[link].class_ = false) :
    claimReply link kind s = refuse s .class_ := by
  simp only [claimReply, named, forbidden, Bool.false_eq_true, not_false_eq_true, if_true]

theorem claimReply_of_own (permitted : k.permits s.links[link].class_ = true)
    (own : s.authority.claims.holder k = some link) : claimReply link kind s = accept s := by
  simp only [claimReply, named, permitted, own, not_true_eq_false, if_false, if_true]

theorem claimReply_of_elsewhere (permitted : k.permits s.links[link].class_ = true)
    (held : s.authority.claims.holder k ≠ none)
    (notOwn : s.authority.claims.holder k ≠ some link) :
    claimReply link kind s = refuse s .claimedElsewhere := by
  obtain ⟨other, holder⟩ := Option.ne_none_iff_exists'.1 held
  have elsewhere : other ≠ link := fun same => notOwn (same ▸ holder)
  simp only [claimReply, named, permitted, holder, elsewhere, not_true_eq_false, if_false]

theorem claimReply_of_notGrantable (permitted : k.permits s.links[link].class_ = true)
    (free : s.authority.claims.holder k = none) (unmet : s.grantable k = false) :
    claimReply link kind s = refuse s .state := by
  simp only [claimReply, named, permitted, free, unmet, not_true_eq_false, Bool.false_eq_true,
    if_false]

theorem claimReply_of_grantable (permitted : k.permits s.links[link].class_ = true)
    (free : s.authority.claims.holder k = none) (met : s.grantable k = true) :
    claimReply link kind s = accept (s.grant link k) := by
  simp only [claimReply, named, permitted, free, met, not_true_eq_false, if_false, if_true]

end Reply

/-! ## The answer to CLAIM by the first line that applies (R145) -/

/-- The lines of R145 after RANGE, in order: the class, the link's own claim, the claim of another
link, the grant condition, and the grant. -/
def State.claimLine (s : State) (link : Link) (holder : Option Link) (permitted condition : Bool)
    (granted : State) : State :=
  if permitted = false then s.answered link (.refused .class_)
  else if holder = some link then s.answered link .accepted
  else if holder ≠ none then s.answered link (.refused .claimedElsewhere)
  else if condition = false then s.answered link (.refused .state)
  else granted.answered link .accepted

section Exec
variable {s : State} {link : Link} {kind : Byte} {k : ClaimKind} (ready : s.ready link)
  (may : isSupervisorOrSpreader s.links[link].class_ = true)
include ready may

theorem serve_claim_of_out (out : 3 ≤ kind.toNat) :
    s.serve link isSupervisorOrSpreader (claimReply link kind) =
      s.answered link (.refused .range) :=
  serve_refuse s link ready may (claimReply_of_out out)

/-- CLAIM of a kind is answered by the first line that applies, from the holder, the classes, the
condition and the grant of that kind. -/
theorem serve_claim_of_kind (named : claimKindOf kind = some k) :
    s.serve link isSupervisorOrSpreader (claimReply link kind) =
      s.claimLine link (s.authority.claims.holder k) (k.permits s.links[link].class_)
        (s.grantable k) (s.grant link k) := by
  rw [← endFrame_class s link link]
  unfold State.claimLine
  cases permitted : k.permits (s.endFrame link).links[link].class_ with
  | false => exact serve_refuse s link ready may (claimReply_of_notPermitted named permitted)
  | true =>
    rw [if_neg (by decide : true ≠ false)]
    split_ifs with own held condition
    · exact serve_endFrame s link (a := .accepted) (j := none) ready may
        (claimReply_of_own named permitted own)
    · exact serve_refuse s link ready may (claimReply_of_elsewhere named permitted held own)
    · exact serve_refuse s link ready may
        (claimReply_of_notGrantable named permitted (not_not.1 held) condition)
    · have granted : claimReply link kind (s.endFrame link) =
          accept ((s.grant link k).endFrame link) :=
        (claimReply_of_grantable named permitted (not_not.1 held)
          (Bool.eq_true_of_not_eq_false condition)).trans
          (congrArg accept (grant_endFrame s link link k))
      exact serve_endFrame s link (a := .accepted) (j := none) ready may granted

end Exec

/-- Settles O47, by the claim kinds: RANGE for no kind, and for each kind the first line that
applies with the classes, the condition and the grant of that kind. -/
theorem claimIsAnsweredByTheFirstLine : Obligations.ClaimIsAnsweredByTheFirstLine := by
  intro s link kind ready class_ bound line
  have may : isSupervisorOrSpreader s.links[link].class_ = true :=
    isSupervisorOrSpreader_iff.2 bound
  have named {k : ClaimKind} (n : claimKindOf kind = some k) := serve_claim_of_kind ready may n
  refine ⟨fun out => ?_, fun zero => ?_, fun one => ?_, fun two => ?_⟩
  · exact congrArg Host.Outcome.next (serve_claim_of_out ready may out)
  · have answer := named (claimKindOf_of_zero zero)
    rw [permits_changeover, may] at answer
    exact congrArg Host.Outcome.next answer
  · have answer := named (claimKindOf_of_one one)
    rw [permits_purge, grantable_purge] at answer
    exact congrArg Host.Outcome.next answer
  · have answer := named (claimKindOf_of_two two)
    rw [permits_reconfigure, grantable_reconfigure] at answer
    exact congrArg Host.Outcome.next answer

end Sys2Proof.Machine
end

section
/-! PROOFS. CLEAR_CAPTURE (R172): what the event router replies for a zone number outside 0..7 and
for that of a zone, and the statement. -/

namespace Sys2Proof.Machine

section ClearCapture
variable {s : State} {zone : Byte}

theorem clearCaptureReply_of_noZone (out : 7 < zone.toNat) :
    clearCaptureReply zone s = refuse s .range := by
  rw [clearCaptureReply, zoneOf_of_lt out]

/-- Whatever the capture of the zone holds, and whatever the state of the zone, it is emptied. -/
theorem clearCaptureReply_of_zone {z : Zone} (n : zone.toNat = z.val) :
    clearCaptureReply zone s = accept (s.changeCapture z fun _ => Capture.empty) := by
  rw [clearCaptureReply, zoneOf_of_eq n]

end ClearCapture

/-- Settles O56, by the two replies of the event router: RANGE for a number of no zone, and the
capture emptied for that of a zone. -/
theorem clearCaptureEmptiesTheCapture : Obligations.ClearCaptureEmptiesTheCapture := by
  intro s link zone ready
  refine ⟨fun out => ?_, fun z n => ?_⟩
  · exact congrArg Host.Outcome.next
      (serve_supervisor_refuse ready (clearCaptureReply_of_noZone out))
  · exact congrArg Host.Outcome.next (serve_accept s link
      (t := s.changeCapture z fun _ => Capture.empty) ready.1 (isSupervisor_of_readyAs ready) rfl
      (clearCaptureReply_of_zone n))

end Sys2Proof.Machine
end

section
/-! PROOFS. What a step can do, said once: a step is a run of elementary changes of the part, each
named with the checks that stand before it. An invariant is then proved change by change. -/

namespace Sys2Proof.Machine

open Relation (ReflTransGen)

/-! ## The elementary changes -/

/-- The changes that surround every request: a link channel changes without its class, and an event
reaches the router. -/
inductive LinkMove (s : State) : State → Prop
  | channel (link : Link) (f : LinkChannel → LinkChannel) (class_ : ∀ c, (f c).class_ = c.class_) :
      LinkMove s (s.changeLink link f)
  | event (c : EventClass) : LinkMove s (s.route c)

/-- A run of such changes. -/
abbrev LinkMoves : State → State → Prop := ReflTransGen LinkMove

/-- The change that an owning block makes for a request on a link, before its events, with the checks
that the block has passed. A configuration edit stands behind a lock that is open (R156). -/
inductive Effect (link : Link) (s : State) : State → Prop
  | same : Effect link s s
  | channel (f : LinkChannel → LinkChannel) (class_ : ∀ c, (f c).class_ = c.class_) :
      Effect link s (s.changeLink link f)
  | router (r : Router) : Effect link s { s with router := r }
  | openLot {number format : Nat} {free : Fin 32} (defined : (s.format format).isSome = true)
      (fresh : lotIndexOf s.registry.lots number = none)
      (lowest : lowestFree s.registry.lots = some free) :
      Effect link s (s.mapLots fun lots => openLotAt lots free number format)
  | closeLot {i : Fin 32} (opened : openLotIndex s.registry.lots = some i) :
      Effect link s (s.mapLots fun lots => closeLotAt lots i)
  | writeHeld (i : Fin 32) (held : Bool) :
      Effect link s (s.mapLots fun lots => changeLot lots i fun l => { l with held := held })
  | foldLot {a b : Fin 32} {l : Lot} (source : s.registry.lots[a] = some l)
      (free : l.forward = none) (used : s.registry.lots[b].isSome = true) (apart : a ≠ b) :
      Effect link s (s.mapLots fun lots => foldAt lots a b)
  | unfoldLot {a b : Fin 32} (forward : s.registry.lots[a].bind (·.forward) = some b) :
      Effect link s (s.mapLots fun lots => unfoldAt lots a b)
  | hang {id : Nat} {i : Fin 32} {l : Lot} (positive : id ≠ 0) (small : id ≤ 65535)
      (room : s.admission.rodsHeld < 4) (fresh : s.rod id = none)
      (opened : openLotIndex s.registry.lots = some i) (lot : s.registry.lots[i] = some l) :
      Effect link s (s.hangRod id i l.format)
  | withdraw {id : Nat} {r : RodRecord} (known : s.rod id = some r) (staged : r.place = .staged) :
      Effect link s { s.deleteRod id with
        admission := { s.admission with staging := s.admission.staging.filter (· != id) } }
  | changeover (format gap : Nat) (held : s.holds link .changeover = true)
      (opened : s.admission.mode = .open_) (running : s.admission.running.isSome = true) :
      Effect link s (s.setMode (.changeover format gap))
  | cancelChangeover {p g : Nat} (mode : s.admission.mode = .changeover p g) :
      Effect link s (s.setMode .open_)
  | start (stopped : s.track.motion = .stopped) (locked : s.authority.lock = true)
      (long : s.track.length ≠ 0) :
      Effect link s ((s.mapTrack TrackControl.start).setMode s.admission.mode.reopened)
  | hold (moving : s.track.motion ≠ .stopped) :
      Effect link s (s.mapTrack (TrackControl.addCause .command))
  | resumeHeld (held : s.track.motion = .held) (notSuspended : s.track.step ≠ .suspended) :
      Effect link s (s.mapTrack TrackControl.resumeHeld)
  | resumeHolding (holding : s.track.motion = .holding) :
      Effect link s (s.mapTrack TrackControl.resumeHolding)
  | stop (moving : s.track.motion ≠ .stopped) (rest : s.track.atRest = true) :
      Effect link s s.stopLine
  | setCadence (compare : Nat) : Effect link s (s.mapTrack (TrackControl.setCadence compare))
  | confirmStep (suspended : s.track.step = .suspended) : Effect link s s.completeSuspended.1
  | abandonStep (suspended : s.track.step = .suspended) : Effect link s s.abandonSuspended
  | take {id : Nat} {rest : List Nat} {r : RodRecord} (head : s.exitQueue = id :: rest)
      (known : s.rod id = some r) :
      Effect link s
        (s.mapRods (updateRod id (RodRecord.revise (resolveChain s.registry.lots r.lot))))
  | confirm {id : Nat} {rest : List Nat} (head : s.exitQueue = id :: rest) :
      Effect link s (s.confirmHead id).1
  | setpoint (z : Zone) : Effect link s (s.changeChannel z fun c => { c with changed := false })
  | climate {z : Zone} {r : Report} (taken : s.climateRefusal z r = none) :
      Effect link s
        ((s.offerCapture z r).changeChannel z fun c => c.accept r (s.classOfReport z r))
  | trim (i : Fin 16) (z : Zone) (temperature humidity format : Nat) :
      Effect link s ((s.trimSetpoint i z temperature humidity).flagGoverned format)
  | claim {k : ClaimKind} (permitted : k.permits s.links[link].class_ = true)
      (condition : s.grantable k = true) : Effect link s (s.grant link k)
  | release {k : ClaimKind} (held : s.holds link k = true) : Effect link s (s.loseClaim k)
  | purge (held : s.holds link .purge = true) (moving : s.track.motion ≠ .stopped) :
      Effect link s s.beginDrain
  | lockConfig (unlocked : s.authority.lock = false) :
      Effect link s
        ((s.setHolder .reconfigure none).mapAuthority fun a => { a with lock := true })
  | trackLength {length : Nat} (unlocked : s.authority.lock = false)
      (range : 16 ≤ length ∧ length ≤ 1024) (within : s.windowBeyond length = false) :
      Effect link s (s.mapTrack fun t => { t with slots := List.replicate length none })
  | window {z : Zone} {base limit : Nat} (unlocked : s.authority.lock = false)
      (within : base ≤ limit → limit + 1 < s.track.length)
      (apart : base ≤ limit → s.windowTaken z base limit = false) :
      Effect link s (s.changeChannel z fun c =>
        c.setWindow base limit (s.governingFormat base limit)).recomputeZones
  | format {i : Fin 16} {entry : Option FormatEntry} (unlocked : s.authority.lock = false)
      (unused : entry = none → s.admission.running ≠ some (i.val + 1) ∧
        formatInUse s.registry.lots (i.val + 1) = false) :
      Effect link s (s.writeFormat i (i.val + 1) entry)
  | interval (v : Nat) (k : Interval) (unlocked : s.authority.lock = false) :
      Effect link s (s.writeInterval v k)

/-- The part after an exposure tick that is due, before its ZONE_STALE events (R117). -/
def State.exposed (s : State) : State :=
  ({ s with exposure := { s.exposure with counter := 0, tick := s.exposure.tick + 1 } }.mapRods
    fun rods => rods.map s.exposeRod).mapChannels fun _ c => c.advanceStale s.zones.stalenessLimit

/-- The changes that come from the lines, the timers and a break, before their events; a device reset
is none of them. -/
inductive LineMove (s : State) : State → Prop
  | break_ (link : Link) : LineMove s (s.resetLink link)
  | holdRises : LineMove s (s.mapTrack TrackControl.holdLineRises)
  | holdFalls : LineMove s (s.mapTrack TrackControl.holdLineFalls)
  | doneLine (level : Bool) :
      LineMove s (s.mapTrack fun t => { t with advanceDoneLine := level })
  | shift (advancing : s.track.advanceLine = true) : LineMove s s.normalShift.1
  | late (suspended : s.track.step = .suspended) : LineMove s s.completeSuspended.1
  | cadence (due : s.track.cadenceDue = true) :
      LineMove s (s.mapTrack fun t => { t with cadenceCount := 0 }).cadenceEffect.1
  | settle (due : s.track.settleDue = true) : LineMove s s.endSettling.1
  | suspend (due : s.track.advanceLimitDue = true) : LineMove s (s.mapTrack TrackControl.suspend)
  | withdrawStep (due : s.track.exitWaitDue = true) :
      LineMove s (s.mapTrack TrackControl.withdrawStep)
  | exposure (due : s.exposure.due = true) : LineMove s s.exposed
  | count : LineMove s s.countTick

/-- A run of line changes and events. -/
abbrev LineMoves : State → State → Prop := ReflTransGen fun s t => LinkMove s t ∨ LineMove s t

/-! ## Events and latched errors are runs of link changes -/

theorem linkMoves_channel (s : State) (link : Link) {f : LinkChannel → LinkChannel}
    (class_ : ∀ c, (f c).class_ = c.class_) : LinkMoves s (s.changeLink link f) :=
  .single (.channel link f class_)

theorem linkMoves_routeAll (s : State) (cs : List EventClass) : LinkMoves s (s.routeAll cs) := by
  induction cs generalizing s with
  | nil => exact .refl
  | cons c cs ih => exact .head (.event c) (ih (s.route c))

section Link
variable {s u : State} (link : Link) (h : LinkMoves s u)
include h

/-- What changes of a channel and events keep is also reached by them. -/
theorem linkMoves_limitExpiry : LinkMoves s (u.limitExpiry link) :=
  limitExpiry_keeps (P := LinkMoves s) (fun _ l f hf hu => hu.tail (.channel l f hf))
    (fun _ c hu => hu.tail (.event c)) link h

theorem linkMoves_discardMark : LinkMoves s (u.discardMark link) :=
  discardMark_keeps (P := LinkMoves s) (fun _ l f hf hu => hu.tail (.channel l f hf))
    (fun _ c hu => hu.tail (.event c)) link h

theorem linkMoves_discardFrame (e : LinkError) : LinkMoves s (u.discardFrame link e) :=
  discardFrame_keeps (P := LinkMoves s) (fun _ l f hf hu => hu.tail (.channel l f hf))
    (fun _ c hu => hu.tail (.event c)) link e h

end Link

end Sys2Proof.Machine
end

section
/-! PROOFS. Every reply of an owning block is one elementary change followed by events. -/

namespace Sys2Proof.Machine

open Relation (ReflTransGen)

/-- The part `t` comes from `s` by one change of an owning block and the events after it. -/
def Replied (link : Link) (s t : State) : Prop := ∃ v, Effect link s v ∧ LinkMoves v t

theorem Effect.replied {link : Link} {s v : State} (e : Effect link s v) : Replied link s v :=
  ⟨v, e, .refl⟩

theorem replied_same (link : Link) (s : State) : Replied link s s := Effect.same.replied

theorem changeLink_replied (link : Link) (s : State) {f : LinkChannel → LinkChannel}
    (class_ : ∀ c, (f c).class_ = c.class_) : Replied link s (s.changeLink link f) :=
  (Effect.channel f class_).replied

section Reply
variable (link : Link) (s : State)

/-! ## Lots (R11 to R16) -/

theorem openLotReply_replied (number format : Nat) :
    Replied link s (openLotReply number format s).state := by
  unfold openLotReply
  split
  · exact replied_same link s
  · next range =>
    split
    · exact replied_same link s
    · next undefined =>
      split
      · exact replied_same link s
      · next duplicate =>
        split
        · exact replied_same link s
        · next free lowest =>
          exact (Effect.openLot (by simpa [Option.isSome_iff_ne_none] using undefined)
            (by simpa using duplicate) lowest).replied

theorem closeLotReply_replied : Replied link s (closeLotReply s).state := by
  unfold closeLotReply
  split
  · exact replied_same link s
  · next i opened => exact (Effect.closeLot opened).replied

theorem onLot_replied {number : Nat} {body : Fin 32 → Reply}
    (own : ∀ i, Replied link s (body i).state) : Replied link s (onLot number s body).state := by
  unfold onLot
  split
  · exact replied_same link s
  · split
    · exact replied_same link s
    · exact own _

theorem writeHeldReply_replied (number : Nat) (held : Bool) :
    Replied link s (writeHeldReply number held s).state :=
  onLot_replied link s fun i => (Effect.writeHeld i held).replied

theorem foldLotReply_replied (numberA numberB : Nat) :
    Replied link s (foldLotReply numberA numberB s).state := by
  unfold foldLotReply
  split
  · exact replied_same link s
  · split
    · exact replied_same link s
    · next a foundA =>
      split
      · exact replied_same link s
      · next b foundB =>
        split
        · exact replied_same link s
        · next differ =>
          split
          · exact replied_same link s
          · next free =>
            have carriesA := lotIndexOf_some foundA
            have carriesB := lotIndexOf_some foundB
            obtain ⟨l, source, _⟩ := Option.map_eq_some_iff.1 carriesA
            rw [source] at free
            refine (Effect.foldLot (a := a) (b := b) source (by simpa using free) ?_ ?_).replied
            · cases entry : s.registry.lots[b] with
              | none => rw [entry] at carriesB; cases carriesB
              | some l => rfl
            · rintro rfl
              rw [carriesA] at carriesB
              exact differ (Option.some.inj carriesB)

theorem unfoldLotReply_replied (number : Nat) :
    Replied link s (unfoldLotReply number s).state :=
  onLot_replied link s fun a => by
    split
    · exact replied_same link s
    · next b forward => exact (Effect.unfoldLot forward).replied

/-! ## Admission (R69 to R83) -/

theorem hangReply_replied {id : Nat} (small : id ≤ 65535) :
    Replied link s (hangReply id s).state := by
  unfold hangReply
  split
  · exact replied_same link s
  · next positive =>
    split
    · exact replied_same link s
    · next room =>
      split
      · exact replied_same link s
      · next known =>
        split
        · exact replied_same link s
        · next i opened =>
          split
          · exact replied_same link s
          · next l lot =>
            split
            · exact (Effect.hang positive small (by simpa [Config.stagingCapacity] using room)
                (by simpa using known) opened lot).replied
            · exact replied_same link s

theorem withdrawReply_replied (id : Nat) : Replied link s (withdrawReply id s).state := by
  unfold withdrawReply
  split
  · exact replied_same link s
  · split
    · exact replied_same link s
    · next r known =>
      split
      · next staged => exact (Effect.withdraw known staged).replied
      all_goals exact replied_same link s

theorem changeoverReply_replied (format : Nat) :
    Replied link s (changeoverReply link format s).state := by
  unfold changeoverReply
  split
  · exact replied_same link s
  · next held =>
    split
    · exact replied_same link s
    · split
      · exact replied_same link s
      · next mode =>
        split
        · exact replied_same link s
        · next running some =>
          split
          · exact replied_same link s
          · split
            · exact replied_same link s
            · exact (Effect.changeover _ _ (by simpa using held) (by simpa using mode)
                (by rw [some]; rfl)).replied

theorem cancelChangeoverReply_replied : Replied link s (cancelChangeoverReply link s).state := by
  unfold cancelChangeoverReply
  split
  · exact replied_same link s
  · split
    · next mode => exact (Effect.cancelChangeover mode).replied
    all_goals exact replied_same link s

/-! ## Motion and step (R27, R41, R42, R53 to R60) -/

theorem startReply_replied : Replied link s (startReply s).state := by
  unfold startReply
  split
  · next stopped =>
    split
    · exact replied_same link s
    · next ready =>
      rw [not_or, not_not] at ready
      exact (Effect.start stopped ready.1 ready.2).replied
  all_goals exact replied_same link s

theorem holdReply_replied : Replied link s (holdReply s).state := by
  by_cases stopped : s.track.motion = .stopped
  · rw [holdReply_of_stopped stopped]; exact replied_same link s
  · rw [holdReply_of_moving stopped]; exact (Effect.hold stopped).replied

theorem resumeReply_replied : Replied link s (resumeReply s).state := by
  unfold resumeReply
  split
  · next held =>
    split
    · exact replied_same link s
    · next free => exact (Effect.resumeHeld held fun p => free (.inl p)).replied
  · next holding =>
    split
    · exact replied_same link s
    · exact (Effect.resumeHolding holding).replied
  all_goals exact replied_same link s

theorem stopReply_replied : Replied link s (stopReply s).state := by
  have rested (moving : s.track.motion ≠ .stopped) : Replied link s
      (if s.track.atRest then accept s.stopLine else refuse s .state).state := by
    split
    · next rest => exact (Effect.stop moving rest).replied
    · exact replied_same link s
  unfold stopReply
  split
  · next m => exact rested (by rw [m]; decide)
  · next m => exact rested (by rw [m]; decide)
  all_goals exact replied_same link s

theorem confirmStepReply_replied : Replied link s (confirmStepReply s).state := by
  unfold confirmStepReply
  split
  · next suspended => exact ⟨_, .confirmStep suspended, linkMoves_routeAll _ _⟩
  · exact replied_same link s

theorem abandonStepReply_replied : Replied link s (abandonStepReply s).state := by
  unfold abandonStepReply
  split
  · next suspended => exact (Effect.abandonStep suspended).replied
  · exact replied_same link s

/-! ## Exit (R135, R137) -/

theorem takeReply_replied : Replied link s (takeReply s).state := by
  unfold takeReply
  split
  · exact replied_same link s
  · next head =>
    split
    · exact replied_same link s
    · next known => exact (Effect.take head known).replied

theorem confirmReply_replied (id : Nat) : Replied link s (confirmReply id s).state := by
  unfold confirmReply
  split
  · exact replied_same link s
  · split
    · exact replied_same link s
    · split
      · exact replied_same link s
      · next head =>
        obtain ⟨rest, queue⟩ := List.head?_eq_some_iff.1 (not_not.1 head)
        exact ⟨_, .confirm queue, linkMoves_routeAll _ _⟩

/-! ## Zones (R103 to R111) -/

theorem onZone_replied {body : Zone → State → Reply}
    (own : ∀ z, Replied link s (body z s).state) : Replied link s (onZone link body s).state := by
  unfold onZone
  split
  · exact replied_same link s
  · exact own _

theorem setpointReply_replied (z : Zone) : Replied link s (setpointReply z s).state := by
  unfold setpointReply
  dsimp only
  split <;> exact (Effect.setpoint z).replied

theorem climateReply_replied (r : Report) (z : Zone) :
    Replied link s (climateReply r z s).state := by
  unfold climateReply
  split
  · exact replied_same link s
  · next taken => exact ⟨_, .climate taken, linkMoves_routeAll _ _⟩

theorem quietReply_replied (flag : Byte) : Replied link s (quietReply link flag s).state := by
  unfold quietReply
  split
  · exact replied_same link s
  · exact changeLink_replied (f := fun c => { c with quiet := _ }) _ s fun _ => rfl

theorem trimSetpointReply_replied (format : Nat) (zone : Byte) (temperature humidity : Nat) :
    Replied link s (trimSetpointReply format zone temperature humidity s).state := by
  unfold trimSetpointReply
  split
  · next i z _ _ =>
    split
    · exact replied_same link s
    · split
      · exact replied_same link s
      · exact (Effect.trim i z temperature humidity format).replied
  · exact replied_same link s

/-! ## Claims, purge and lock (R145 to R157) -/

theorem claimReply_replied (kind : Byte) : Replied link s (claimReply link kind s).state := by
  unfold claimReply
  split
  · exact replied_same link s
  · split
    · exact replied_same link s
    · next permitted =>
      split
      · split <;> exact replied_same link s
      · split
        · next condition => exact (Effect.claim (by simpa using permitted) condition).replied
        · exact replied_same link s

theorem releaseReply_replied (kind : Byte) : Replied link s (releaseReply link kind s).state := by
  unfold releaseReply
  split
  · exact replied_same link s
  · split
    · next held => exact (Effect.release held).replied
    · exact replied_same link s

theorem purgeReply_replied : Replied link s (purgeReply link s).state := by
  unfold purgeReply
  split
  · exact replied_same link s
  · next held =>
    have held : s.holds link .purge = true := by simpa using held
    split
    · exact replied_same link s
    · split
      · exact replied_same link s
      · exact replied_same link s
      · next m => exact (Effect.purge held (by rw [m]; decide)).replied
      · next m => exact (Effect.purge held (by rw [m]; decide)).replied

/-- What passes the two checks of an edit stands behind an open lock and a held claim (R156). -/
theorem editRefusal_none {s : State} {link : Link} (e : s.editRefusal link = none) :
    s.authority.lock = false ∧ s.holds link .reconfigure = true := by
  unfold State.editRefusal at e
  split at e
  · cases e
  · next unlocked =>
    split at e
    · next held => exact ⟨by simpa using unlocked, held⟩
    · cases e

theorem lockConfigReply_replied : Replied link s (lockConfigReply link s).state := by
  unfold lockConfigReply
  split
  · exact replied_same link s
  · next passed => exact (Effect.lockConfig (editRefusal_none passed).1).replied

theorem onEdit_replied {body : State → Reply}
    (own : s.authority.lock = false → Replied link s (body s).state) :
    Replied link s (onEdit link body s).state := by
  unfold onEdit
  split
  · exact replied_same link s
  · next passed => exact own (editRefusal_none passed).1

/-! ## The configuration edits (R94, R156 to R160) -/

section Edit
variable (unlocked : s.authority.lock = false)
include unlocked

theorem setTrackLengthEdit_replied (length : Nat) :
    Replied link s (setTrackLengthEdit length s).state := by
  unfold setTrackLengthEdit
  split
  · exact replied_same link s
  · next range =>
    split
    · exact replied_same link s
    · next within =>
      exact (Effect.trackLength unlocked ((inRange_iff 16 1024 length).1 (not_not.1 range))
        (by simpa using within)).replied

theorem setWindowEdit_replied (zone : Byte) (base limit : Nat) :
    Replied link s (setWindowEdit zone base limit s).state := by
  unfold setWindowEdit
  split
  · exact replied_same link s
  · split
    · exact replied_same link s
    · split
      · exact replied_same link s
      · next within =>
        split
        · exact replied_same link s
        · next apart =>
          refine (Effect.window unlocked (fun enabled => ?_) fun enabled => ?_).replied
          · exact Nat.lt_of_not_le fun short => within ⟨enabled, short⟩
          · simpa using fun taken => apart ⟨enabled, taken⟩

theorem setFormatEdit_replied (f : FormatOperand) : Replied link s (setFormatEdit f s).state := by
  have number {i : Fin 16} (found : formatIndex f.format.toNat = some i) :
      f.format.toNat = i.val + 1 := by
    unfold formatIndex at found
    split at found
    · next range =>
      have := congrArg Fin.val (Option.some.inj found)
      dsimp only at this
      omega
    · cases found
  unfold setFormatEdit
  split
  · next i found _ =>
    split
    · rw [number found]
      exact ⟨_, .format unlocked (by exact fun undefined => nomatch undefined), .refl⟩
    · exact replied_same link s
  · next i found _ =>
    split
    · exact replied_same link s
    · next unused =>
      rw [not_or, number found] at unused
      rw [number found]
      exact (Effect.format unlocked fun _ => ⟨unused.1, by simpa using unused.2⟩).replied
  · exact replied_same link s

theorem setIntervalEdit_replied (selector : Byte) (v : Nat) :
    Replied link s (setIntervalEdit selector v s).state := by
  unfold setIntervalEdit
  split
  · exact replied_same link s
  · split
    · exact (Effect.interval v _ unlocked).replied
    · exact replied_same link s

end Edit

/-! ## Links and router -/

theorem seekReply_replied (space : Byte) (index : Nat) :
    Replied link s (seekReply link space index s).state := by
  unfold seekReply
  split
  · exact replied_same link s
  · split
    · exact replied_same link s
    · split
      · exact replied_same link s
      · exact changeLink_replied (f := fun c => { c with cursor := some _ }) _ s fun _ => rfl

theorem readReply_replied (count : Nat) (advance : Byte) :
    Replied link s (readReply link count advance s).state := by
  unfold readReply
  split
  · exact replied_same link s
  · split
    · exact replied_same link s
    · split <;> exact replied_same link s

theorem setRouteReply_replied (eventClass destination : Byte) :
    Replied link s (setRouteReply eventClass destination s).state := by
  unfold setRouteReply
  split
  · exact (Effect.router _).replied
  · exact replied_same link s

theorem clearCaptureReply_replied (zone : Byte) :
    Replied link s (clearCaptureReply zone s).state := by
  unfold clearCaptureReply
  split
  · exact replied_same link s
  · exact (Effect.router _).replied

end Reply

/-- The reply to a request is one change of the owning block and the events after it. -/
theorem reply_replied {c : Instr} {link : Link} {may : StationClass → Bool}
    {body : State → Reply} (h : replyOf c = some (link, may, body)) (s : State) :
    Replied link s (body s).state := by
  cases c <;> simp only [replyOf, reduceCtorEq, Option.some.injEq, Prod.mk.injEq] at h <;>
    obtain ⟨rfl, rfl, rfl⟩ := h
  case linkStatus => exact changeLink_replied (f := fun c => { c with lastError := .clear }) _ s fun _ => rfl
  case seek => exact seekReply_replied _ s _ _
  case read => exact readReply_replied _ s _ _
  case openLot => exact openLotReply_replied _ s _ _
  case closeLot => exact closeLotReply_replied _ s
  case holdLot => exact writeHeldReply_replied _ s _ _
  case releaseLot => exact writeHeldReply_replied _ s _ _
  case foldLot => exact foldLotReply_replied _ s _ _
  case unfoldLot => exact unfoldLotReply_replied _ s _
  case hang rod => exact hangReply_replied _ s (by have := rod.isLt; omega)
  case withdraw => exact withdrawReply_replied _ s _
  case changeover => exact changeoverReply_replied _ s _
  case cancelChangeover => exact cancelChangeoverReply_replied _ s
  case start => exact startReply_replied _ s
  case hold => exact holdReply_replied _ s
  case resume => exact resumeReply_replied _ s
  case stop => exact stopReply_replied _ s
  case setCadence => exact (Effect.setCadence _).replied
  case confirmStep => exact confirmStepReply_replied _ s
  case abandonStep => exact abandonStepReply_replied _ s
  case take => exact takeReply_replied _ s
  case confirm => exact confirmReply_replied _ s _
  case setpoint => exact onZone_replied _ s (setpointReply_replied _ s)
  case climate => exact onZone_replied _ s (climateReply_replied _ s _)
  case quiet => exact quietReply_replied _ s _
  case trimSetpoint => exact trimSetpointReply_replied _ s _ _ _ _
  case claim => exact claimReply_replied _ s _
  case release => exact releaseReply_replied _ s _
  case purge => exact purgeReply_replied _ s
  case lockConfig => exact lockConfigReply_replied _ s
  case setTrackLength =>
    exact onEdit_replied _ s fun unlocked => setTrackLengthEdit_replied _ s unlocked _
  case setWindow =>
    exact onEdit_replied _ s fun unlocked => setWindowEdit_replied _ s unlocked _ _ _
  case setFormat =>
    exact onEdit_replied _ s fun unlocked => setFormatEdit_replied _ s unlocked _
  case setInterval =>
    exact onEdit_replied _ s fun unlocked => setIntervalEdit_replied _ s unlocked _ _
  case setRoute => exact setRouteReply_replied _ s _ _
  case silence => exact (Effect.router _).replied
  case readNotes => exact (Effect.router _).replied
  case clearCapture => exact clearCaptureReply_replied _ s _

end Sys2Proof.Machine
end

section
/-! PROOFS. A command is a run of elementary changes: a command of a link has at most one change of an
owning block between changes of a channel and events, and a line or timer command is a run of line
changes and events. -/

namespace Sys2Proof.Machine

open Relation (ReflTransGen)

/-! ## Commands of a link -/

/-- The part `t` comes from `s` by at most one change of an owning block, with changes of a link
channel and events before and after it. -/
def Served (s t : State) : Prop :=
  ∃ u v link, LinkMoves s u ∧ Effect link u v ∧ LinkMoves v t

theorem LinkMoves.served {s t : State} (h : LinkMoves s t) : Served s t :=
  ⟨t, t, 0, h, .same, .refl⟩

theorem Served.after {s u t : State} (before : LinkMoves s u) (h : Served u t) : Served s t := by
  obtain ⟨a, b, link, ha, e, hb⟩ := h
  exact ⟨a, b, link, before.trans ha, e, hb⟩

theorem Replied.served {link : Link} {s u v t : State} (before : LinkMoves s u)
    (h : Replied link u v) (after : LinkMoves v t) : Served s t := by
  obtain ⟨w, e, hw⟩ := h
  exact ⟨u, w, link, before, e, hw.trans after⟩

section Serve
variable (s : State) (link : Link)

theorem linkMoves_endFrame : LinkMoves s ((s.limitExpiry link).endFrame link) :=
  (linkMoves_limitExpiry link .refl).tail (.channel link _ fun _ => rfl)

theorem linkMoves_respond (a : Answer) (j : Option StreamJob) : LinkMoves s (s.respond link a j) := by
  unfold State.respond
  exact linkMoves_channel s link fun _ => rfl

theorem serve_served {may : StationClass → Bool} {body : State → Reply}
    (own : ∀ u, Replied link u (body u).state) : Served s (s.serve link may body) := by
  have ended := linkMoves_endFrame s link
  unfold State.serve
  split
  · exact LinkMoves.served .refl
  · exact LinkMoves.served (linkMoves_discardMark link .refl)
  · dsimp only
    split
    · exact (own _).served ended ((linkMoves_respond _ link _ _).trans (linkMoves_routeAll _ _))
    · exact LinkMoves.served (ended.tail (.channel link _ fun _ => rfl))

theorem serveClimate_served (r : Report) : Served s (s.serveClimate link r) := by
  have own (u : State) : Replied link u (onZone link (climateReply r) u).state :=
    onZone_replied link u (climateReply_replied link u r)
  have ended := linkMoves_endFrame s link
  unfold State.serveClimate
  split
  · unfold State.quietReport
    dsimp only
    split
    · exact LinkMoves.served (ended.tail (.channel link _ fun _ => rfl))
    · exact (own _).served ended (.single (.channel link _ fun _ => rfl))
  · exact serve_served s link own

end Serve

theorem request_served {c : Instr} (request : replyOf c ≠ none) {s t : State}
    (e : exec c s = .next t) : Served s t := by
  obtain ⟨⟨link, may, body⟩, found⟩ := Option.ne_none_iff_exists'.1 request
  rcases exec_of_replyOf found s with k | ⟨r, -, k⟩
  · rw [k] at e
    cases e
    exact serve_served s link (reply_replied found)
  · rw [k] at e
    cases e
    exact serveClimate_served s link r

/-- The commands of a link that carry no request change link channels and raise events. -/
theorem linkEvent_served {c : Instr} (noRequest : replyOf c = none) (noLine : lineCommand c = false)
    {s t : State} (e : exec c s = .next t) : Served s t := by
  have put (link : Link) (f : LinkChannel → LinkChannel) (class_ : ∀ c, (f c).class_ = c.class_) :
      Served s (s.changeLink link f) := LinkMoves.served (linkMoves_channel s link class_)
  have idle : Served s s := LinkMoves.served .refl
  rcases linkEvent_cases noRequest noLine with ⟨link, rfl⟩ | ⟨link, rfl⟩ | ⟨link, error, rfl⟩ |
      ⟨link, rfl⟩ | ⟨link, rfl⟩ | ⟨link, rfl⟩ | ⟨link, rfl⟩
  · replace e : execStreamRecord link s = .next t := e
    unfold execStreamRecord State.streamTurn State.endStream at e
    split at e
    · split at e
      · cases e; exact put _ _ fun _ => rfl
      · split at e
        all_goals cases e; exact put _ _ fun _ => rfl
    all_goals cases e; exact idle
  · replace e : execTransmitComplete link s = .next t := e
    unfold execTransmitComplete State.beginStream State.endStream at e
    split at e
    · cases e; exact put _ _ fun _ => rfl
    · split at e
      · cases e; exact put _ _ fun _ => rfl
      · split at e
        all_goals cases e; exact put _ _ fun _ => rfl
    all_goals cases e; exact idle
  · replace e : execFrameDiscarded link error s = .next t := e
    unfold execFrameDiscarded at e
    split at e
    · split at e <;> cases e
      · exact LinkMoves.served (linkMoves_discardFrame link .refl error)
      · exact LinkMoves.served (linkMoves_limitExpiry link .refl)
    · cases e; exact idle
  · cases e
    exact LinkMoves.served (linkMoves_limitExpiry link .refl)
  · replace e : execContention link s = .next t := e
    unfold execContention at e
    split at e <;> cases e
    · exact LinkMoves.served (linkMoves_discardMark link .refl)
    · exact idle
    · exact idle
  · have cut : LinkMoves s (s.limitExpiry link) := linkMoves_limitExpiry link .refl
    rcases openingMark_cases e with rfl | rfl | ⟨f, class_, rfl⟩ | ⟨error, rfl⟩ | ⟨c, request, k⟩
    · exact idle
    · exact LinkMoves.served (linkMoves_discardMark link .refl)
    · exact LinkMoves.served (cut.tail (.channel link f class_))
    · exact LinkMoves.served (linkMoves_discardFrame link cut error)
    · exact (request_served request k).after cut
  · cases e
    exact put _ _ fun _ => rfl

/-- A command that is no line or timer command has at most one change of an owning block. -/
theorem exec_served {c : Instr} (noLine : lineCommand c = false) {s t : State}
    (e : exec c s = .next t) : Served s t := by
  by_cases request : replyOf c = none
  · exact linkEvent_served request noLine e
  · exact request_served request e

/-! ## Line and timer commands -/

theorem LinkMoves.line {s t : State} (h : LinkMoves s t) : LineMoves s t :=
  h.lift id fun _ _ => .inl

theorem LineMove.then_routeAll {s t : State} (h : LineMove s t) (cs : List EventClass) :
    LineMoves s (t.routeAll cs) :=
  .head (.inr h) (linkMoves_routeAll t cs).line

/-- An exposure tick is its change of the part and then its events (R117). -/
theorem exposureExpiry_of_due {s : State} (due : s.exposure.due = true) :
    s.exposureExpiry = s.exposed.routeAll s.staleEvents := by
  unfold State.exposureExpiry
  rw [if_pos due]
  rfl

section Expiry
variable (s : State)

theorem exposureExpiry_moves : LineMoves s s.exposureExpiry := by
  by_cases due : s.exposure.due = true
  · rw [exposureExpiry_of_due due]
    exact (LineMove.exposure due).then_routeAll _
  · unfold State.exposureExpiry
    rw [if_neg due]

theorem settleExpiry_moves : LineMoves s s.settleExpiry := by
  unfold State.settleExpiry
  split
  · next due => exact (LineMove.settle due).then_routeAll _
  · exact .refl

theorem advanceLimitExpiry_moves : LineMoves s s.advanceLimitExpiry := by
  unfold State.advanceLimitExpiry
  split
  · next due => exact (LineMove.suspend due).then_routeAll _
  · exact .refl

theorem exitWaitExpiry_moves : LineMoves s s.exitWaitExpiry := by
  unfold State.exitWaitExpiry
  split
  · next due => exact (LineMove.withdrawStep due).then_routeAll _
  · exact .refl

theorem cadenceExpiry_moves : LineMoves s s.cadenceExpiry := by
  unfold State.cadenceExpiry
  split
  · next due => exact (LineMove.cadence due).then_routeAll _
  · exact .refl

theorem takeOverdue_moves : LineMoves s s.takeOverdue := by
  have limits (links : List Link) (u : State) : LinkMoves u (links.foldl State.limitExpiry u) := by
    induction links generalizing u with
    | nil => exact .refl
    | cons link rest ih => exact (linkMoves_limitExpiry link .refl).trans (ih _)
  have first := (exposureExpiry_moves s).trans (settleExpiry_moves _)
  have second := (first.trans (advanceLimitExpiry_moves _)).trans (exitWaitExpiry_moves _)
  exact (second.trans (cadenceExpiry_moves _)).trans (limits _ _).line

/-- An arrival of ADVANCE DONE is the rise of the line, the end of a step in progress if there is
one, and events (R32). -/
theorem advanceDone_moves :
    LineMoves s
      (settleEvents (s.mapTrack fun t => { t with advanceDoneLine := true }).advanceArrives) := by
  have rise : LineMoves s (s.mapTrack fun t => { t with advanceDoneLine := true }) :=
    .single (.inr (.doneLine true))
  refine rise.trans ?_
  generalize s.mapTrack (fun t => { t with advanceDoneLine := true }) = u
  unfold State.advanceArrives settleEvents
  split
  · next n step =>
    exact (LineMove.shift (by unfold TrackControl.advanceLine; rw [step])).then_routeAll _
  · next step => exact (LineMove.late step).then_routeAll _
  all_goals exact (linkMoves_routeAll u _).line

end Expiry

/-- A line or timer command that is no device reset is a run of line changes and events. -/
theorem line_moves {c : Instr} (line : lineCommand c = true) (noReset : ∀ straps, c ≠ .deviceReset straps)
    {s t : State} (e : exec c s = .next t) : LineMoves s t := by
  cases c <;> first | cases line; done | skip
  case deviceReset straps => exact absurd rfl (noReset straps)
  case lineBreak link => cases e; exact .single (.inr (.break_ link))
  case holdLineRise => cases e; exact .single (.inr .holdRises)
  case holdLineFall => cases e; exact .single (.inr .holdFalls)
  case advanceDone =>
    replace e : execAdvanceDone s = .next t := e
    unfold execAdvanceDone at e
    split at e <;> cases e
    · exact .refl
    · exact advanceDone_moves s
  case advanceDoneFall => cases e; exact .single (.inr (.doneLine false))
  case cadenceExpiry => cases e; exact cadenceExpiry_moves s
  case settleExpiry => cases e; exact settleExpiry_moves s
  case advanceLimitExpiry => cases e; exact advanceLimitExpiry_moves s
  case exitWaitExpiry => cases e; exact exitWaitExpiry_moves s
  case exposureTick => cases e; exact exposureExpiry_moves s
  case baseTick =>
    rw [exec_baseTick] at e
    rw [← Host.Outcome.next.inj e]
    exact (takeOverdue_moves s).tail (.inr .count)

/-! ## An invariant, change by change -/

section Invariant
variable {P : State → Prop}
  (link : ∀ s t, LinkMove s t → P s → P t)
include link

theorem linkMoves_keep {s t : State} (moves : LinkMoves s t) (h : P s) : P t := by
  induction moves with
  | refl => exact h
  | tail _ move ih => exact link _ _ move ih

theorem lineMoves_keep (line : ∀ s t, LineMove s t → P s → P t) {s t : State}
    (moves : LineMoves s t) (h : P s) : P t := by
  induction moves with
  | refl => exact h
  | tail _ move ih =>
    rcases move with move | move
    · exact link _ _ move ih
    · exact line _ _ move ih

/-- A property that every elementary change keeps, and that a device reset gives, is kept by every
step; the queue is no part of it. -/
theorem step_keeps (queue : ∀ s q, P s → P { s with pending := q })
    (effect : ∀ l s t, Effect l s t → P s → P t)
    (line : ∀ s t, LineMove s t → P s → P t)
    (reset : ∀ (s : State) straps, P (s.deviceReset straps)) {s t : State} (h : P s)
    (e : step s = .next t) : P t := by
  unfold step at e
  split at e
  · cases e; exact h
  · next c rest _ =>
    have h := queue s rest h
    cases kind : lineCommand c with
    | false =>
      obtain ⟨u, v, l, before, own, after⟩ := exec_served kind e
      exact linkMoves_keep link after (effect l u v own (linkMoves_keep link before h))
    | true =>
      by_cases isReset : ∃ straps, c = .deviceReset straps
      · obtain ⟨straps, rfl⟩ := isReset
        cases e
        exact reset _ straps
      · exact lineMoves_keep link line
          (line_moves kind (fun straps q => isReset ⟨straps, q⟩) e) h

end Invariant

end Sys2Proof.Machine
end

section
/-! PROOFS. The motion table (R50) as rows, one for each motion state, and that every elementary change
keeps the part in one of them. -/

namespace Sys2Proof.Machine


/-! ## The rows of the motion table -/

/-- The track controller is in a row of the motion table: what the sub-state, the causes, the owed
flag and the counter may be in its motion state (R26, R29, R50, R51). -/
inductive MotionRow (t : TrackControl) : Prop
  | stopped (m : t.motion = .stopped) (empty : t.isEmpty = true) (step : t.step = .idle)
      (causes : t.causes = {}) (owed : t.owed = false) (count : t.cadenceCount = 0)
  | running (m : t.motion = .running) (causes : t.causes = {}) (step : t.step ≠ .suspended)
      (owed : t.owed = true → t.step ≠ .idle) (long : t.length ≠ 0)
  | holding (m : t.motion = .holding) (step : t.advanceLine = true)
      (motion : t.causes.motion = false) (exit : t.causes.exit = false) (owed : t.owed = false)
      (long : t.length ≠ 0)
  | held (m : t.motion = .held) (step : t.step = .idle ∨ t.step = .suspended)
      (owed : t.owed = false) (count : t.cadenceCount = 0) (long : t.length ≠ 0)

/-- The lengths of a track: not set, or 16 to 1024 (R21, R22). -/
abbrev lengthSet (n : Nat) : Prop := n = 0 ∨ (16 ≤ n ∧ n ≤ 1024)

/-- A moving line is locked, and a locked part has no RECONFIGURE claim (R50, R56, R156). -/
abbrev lockKept (t : TrackControl) (a : Authority) : Prop :=
  (t.motion ≠ .stopped → a.lock = true) ∧ (a.lock = true → a.claims.reconfigure = none)

theorem notOwed_of {t : TrackControl} (owedRuns : t.owed = true → t.motion = .running ∧ t.step ≠ .idle)
    (m : t.motion ≠ .running) : t.owed = false :=
  Bool.eq_false_iff.2 fun owed => m (owedRuns owed).1

/-- The invariant is a row of the table, a length, and the lock. -/
theorem motionInv_iff (s : State) :
    MotionInv s ↔ MotionRow s.track ∧ lengthSet s.track.length ∧ lockKept s.track s.authority := by
  refine ⟨fun h => ⟨?_, h.length, h.movingLocked, h.lockedFree⟩, fun ⟨row, length, moving, free⟩ => ?_⟩
  · have owed := notOwed_of h.owedRuns
    cases m : s.track.motion with
    | stopped =>
      obtain ⟨empty, step, causes⟩ := h.stoppedRests m
      exact .stopped m empty step causes (owed (by simp [m])) (h.countRests (.inl m))
    | running =>
      obtain ⟨causes, step⟩ := h.runningFree m
      exact .running m causes step (fun o => (h.owedRuns o).2) (h.movingLong (by simp [m]))
    | holding =>
      obtain ⟨step, motion, exit⟩ := h.holdingAdvances m
      exact .holding m step motion exit (owed (by simp [m])) (h.movingLong (by simp [m]))
    | held =>
      exact .held m (h.heldRests m) (owed (by simp [m])) (h.countRests (.inr m))
        (h.movingLong (by simp [m]))
  · cases row with
    | stopped m empty step causes owed count =>
      refine ⟨?_, ?_, ?_, ?_, moving, free, ?_, ?_, length, ?_⟩ <;> simp_all
    | running m causes step owed long =>
      refine ⟨?_, ?_, ?_, ?_, moving, free, ?_, ?_, length, ?_⟩ <;> simp_all
    | holding m step motion exit owed long =>
      refine ⟨?_, ?_, ?_, ?_, moving, free, ?_, ?_, length, ?_⟩ <;> simp_all
    | held m step owed count long =>
      refine ⟨?_, ?_, ?_, ?_, moving, free, ?_, ?_, length, ?_⟩ <;> simp_all

/-! ## Which row a sub-state stands in -/

section Row
variable {t : TrackControl} (row : MotionRow t)
include row

/-- A step in progress that is not ADVANCING or SUSPENDED runs. -/
theorem MotionRow.running_of_waiting (waiting : t.step ≠ .idle) (line : t.advanceLine = false)
    (notSuspended : t.step ≠ .suspended) : t.motion = .running := by
  cases row with
  | stopped m empty step => exact absurd step waiting
  | running m => exact m
  | holding m step => rw [line] at step; cases step
  | held m step => exact absurd step (by simp [waiting, notSuspended])

theorem MotionRow.held_of_suspended (suspended : t.step = .suspended) :
    t.motion = .held ∧ t.owed = false ∧ t.cadenceCount = 0 ∧ t.length ≠ 0 := by
  cases row with
  | stopped m empty step => rw [suspended] at step; cases step
  | running m causes step => exact absurd suspended step
  | holding m step => simp [TrackControl.advanceLine, suspended] at step
  | held m step owed count long => exact ⟨m, owed, count, long⟩

theorem MotionRow.long_of_moving (moving : t.motion ≠ .stopped) : t.length ≠ 0 := by
  cases row with
  | stopped m => exact absurd m moving
  | running m causes step owed long => exact long
  | holding m step motion exit owed long => exact long
  | held m step owed count long => exact long

/-- A step in ADVANCING runs, or goes on in HOLDING. -/
theorem MotionRow.moving_of_advancing (line : t.advanceLine = true) :
    t.motion = .running ∨ t.motion = .holding := by
  cases row with
  | stopped m empty step => simp [TrackControl.advanceLine, step] at line
  | running m => exact .inl m
  | holding m => exact .inr m
  | held m step => rcases step with step | step <;> simp [TrackControl.advanceLine, step] at line

/-! ## Hold causes (R51) -/

/-- LINE, COMMAND and EVENT may be added in every row; MOTION and EXIT are added by the expiries. -/
theorem MotionRow.addCause {k : Cause} (notMotion : k ≠ .motion) (notExit : k ≠ .exit) :
    MotionRow (t.addCause k) := by
  rcases addCause_cases k t with ⟨same, _⟩ | ⟨_, ⟨m, waits, e⟩ | ⟨m, ⟨n, advances⟩, e⟩ | ⟨m, e⟩⟩
  · rw [same]; exact row
  · have long := row.long_of_moving (by simp [m])
    rw [e]
    exact .held rfl (by dsimp only; split <;> simp) rfl rfl long
  · have long := row.long_of_moving (by simp [m])
    cases row with
    | running _ causes =>
      rw [e]
      refine .holding rfl (by simp [TrackControl.advanceLine, advances]) ?_ ?_ rfl long
      all_goals dsimp only; rw [causes]; cases k <;> simp_all [Causes.insert]
    | _ => simp_all
  · rw [e]
    cases row with
    | holding m step motion exit owed long =>
      refine .holding m step ?_ ?_ owed long
      all_goals dsimp only; cases k <;> simp_all [Causes.insert]
    | held m step owed count long => exact .held m step owed count long
    | _ => simp_all

end Row

/-! ## The changes of the track controller keep the invariant -/

/-- What the invariant looks at. -/
theorem MotionInv.congr {s t : State} (h : MotionInv s) (track : t.track = s.track)
    (lock : t.authority.lock = s.authority.lock)
    (free : s.authority.claims.reconfigure = none → t.authority.claims.reconfigure = none) :
    MotionInv t := by
  rw [motionInv_iff] at h ⊢
  obtain ⟨row, length, moving, locked⟩ := h
  rw [track]
  exact ⟨row, length, fun m => lock ▸ moving m, fun l => free (locked (lock ▸ l))⟩

/-- A change of the track controller that keeps the length and enters no motion state from STOPPED. -/
theorem MotionInv.track {s t : State} (h : MotionInv s) (row : MotionRow t.track)
    (length : t.track.length = s.track.length) (authority : t.authority = s.authority)
    (moving : t.track.motion ≠ .stopped → s.track.motion ≠ .stopped) : MotionInv t := by
  have ⟨_, long, locked, free⟩ := (motionInv_iff s).1 h
  refine (motionInv_iff t).2 ⟨row, length ▸ long, fun m => ?_, fun l => ?_⟩
  · rw [authority]; exact locked (moving m)
  · rw [authority] at l ⊢; exact free l

theorem MotionInv.row {s : State} (h : MotionInv s) : MotionRow s.track := ((motionInv_iff s).1 h).1

theorem MotionInv.addCause {s : State} {k : Cause} (h : MotionInv s) (notMotion : k ≠ .motion)
    (notExit : k ≠ .exit) : MotionInv (s.mapTrack (TrackControl.addCause k)) :=
  h.track (h.row.addCause notMotion notExit) (by simp) rfl (by simp)

theorem MotionInv.linkMove {s t : State} (move : LinkMove s t) (h : MotionInv s) : MotionInv t := by
  cases move with
  | channel link f class_ => exact h.congr rfl rfl id
  | event c =>
    have row : MotionRow (s.route c).track := by
      rw [route_track]
      split
      · exact h.row.addCause (by decide) (by decide)
      · exact h.row
    refine h.track row ?_ (route_authority c s) ?_ <;> rw [route_track] <;> split <;> simp

/-! ## A step begins and settles (R30, R31, R35) -/

/-- The beginning of a step writes the sub-state alone: EXIT_WAIT or ADVANCING. -/
theorem beginStep_track (s : State) :
    (∃ n, s.beginStep.1.track = { s.track with step := .exitWait n }) ∨
      ∃ n, s.beginStep.1.track = { s.track with step := .advancing n } := by
  unfold State.beginStep
  split
  · exact .inl ⟨_, rfl⟩
  · exact .inr ⟨s.track.advanceLimit, by simp [State.enterAdvancing]⟩

/-- In RUNNING a step may begin, whatever the owed flag. -/
theorem MotionRow.beginStep {s : State} (m : s.track.motion = .running) (causes : s.track.causes = {})
    (long : s.track.length ≠ 0) : MotionRow s.beginStep.1.track := by
  rcases beginStep_track s with ⟨n, e⟩ | ⟨n, e⟩ <;> rw [e]
  · exact .running m causes (by simp) (by simp) long
  · exact .running m causes (by simp) (by simp) long

theorem beginStep_keeps_track (s : State) :
    s.beginStep.1.track.motion = s.track.motion ∧
      s.beginStep.1.track.length = s.track.length := by
  rcases beginStep_track s with ⟨n, e⟩ | ⟨n, e⟩ <;> rw [e] <;> exact ⟨rfl, rfl⟩

theorem MotionRow.endSettling {s : State} (m : s.track.motion = .running) (causes : s.track.causes = {})
    (long : s.track.length ≠ 0) : MotionRow s.endSettling.1.track := by
  unfold State.endSettling
  split
  · exact .beginStep m causes long
  · next owed => exact .running m causes (by simp) (fun o => absurd o owed) long

theorem endSettling_keeps_track (s : State) :
    s.endSettling.1.track.motion = s.track.motion ∧
      s.endSettling.1.track.length = s.track.length := by
  unfold State.endSettling
  split
  · exact beginStep_keeps_track _
  · exact ⟨rfl, rfl⟩

theorem MotionRow.beginSettling {s : State} (m : s.track.motion = .running)
    (causes : s.track.causes = {}) (long : s.track.length ≠ 0) :
    MotionRow s.beginSettling.1.track := by
  unfold State.beginSettling
  split
  · exact .endSettling m causes long
  · exact .running m causes (by simp) (by simp) long

theorem beginSettling_keeps_track (s : State) :
    s.beginSettling.1.track.motion = s.track.motion ∧
      s.beginSettling.1.track.length = s.track.length := by
  unfold State.beginSettling
  split
  · exact endSettling_keeps_track _
  · exact ⟨rfl, rfl⟩

/-! ## The shift (R33) -/

@[simp] theorem shiftSlots_length (entering : Option Nat) (slots : List (Option Nat)) :
    (shiftSlots entering slots).length = slots.length := by
  simp [shiftSlots]

theorem shift_length (s : State) : s.shift.1.track.length = s.track.length := by
  rw [shift_track]; split <;> simp [TrackControl.length]

/-- Where the drain ends the track is empty after the shift. -/
theorem shift_isEmpty {s : State} (drain : s.drainEnds = true) : s.shift.1.track.isEmpty = true := by
  rw [shift_track, if_pos drain]
  unfold State.drainEnds at drain
  rw [Bool.and_eq_true] at drain
  exact drain.2

/-- Where the drain does not end, the shift leaves the motion state and everything the table looks
at but the slots. -/
theorem shift_track_of_noDrain {s : State} (drain : s.drainEnds = false) :
    s.shift.1.track = { s.track with
      slots := shiftSlots s.admission.boarding.slot s.track.slots
      stepNumber := s.track.stepNumber + 1 } := by
  rw [shift_track, drain]; rfl

theorem shift_track_of_drain {s : State} (drain : s.drainEnds = true) :
    s.shift.1.track = { s.track with
      slots := shiftSlots s.admission.boarding.slot s.track.slots
      stepNumber := s.track.stepNumber + 1, motion := .stopped, causes := {}, owed := false
      cadenceCount := 0 } := by
  rw [shift_track, drain]; rfl

/-- Where the drain ends, the row is that of STOPPED as soon as the step is IDLE. -/
theorem MotionRow.shift_drained {s : State} (drain : s.drainEnds = true) :
    MotionRow { s.shift.1.track with step := .idle } := by
  have empty : (State.track s.shift.1).isEmpty = true := shift_isEmpty drain
  refine .stopped ?_ empty rfl ?_ ?_ ?_ <;> rw [shift_track_of_drain drain]

/-- The end of a step that ends normally: settling in RUNNING, HELD from HOLDING, STOPPED where the
drain ends (R33, effect 8). -/
theorem MotionRow.normalShift {s : State} (row : MotionRow s.track)
    (advancing : s.track.advanceLine = true) : MotionRow s.normalShift.1.track := by
  change MotionRow s.shift.1.finishShift.1.track
  unfold State.finishShift
  cases drain : s.drainEnds with
  | true =>
    have m : s.shift.1.track.motion = .stopped := by rw [shift_track_of_drain drain]
    rw [m]
    exact .shift_drained drain
  | false =>
    have long : s.shift.1.track.length ≠ 0 := by
      rw [shift_length]
      exact row.long_of_moving (by rcases row.moving_of_advancing advancing with m | m <;> simp [m])
    have e := shift_track_of_noDrain drain
    cases row with
    | running m causes =>
      have m' : s.shift.1.track.motion = .running := by rw [e]; exact m
      rw [m']
      exact .beginSettling m' (by rw [e]; exact causes) long
    | holding m =>
      have m' : s.shift.1.track.motion = .holding := by rw [e]; exact m
      rw [m']
      exact .held rfl (.inl rfl) rfl rfl long
    | stopped m empty step => simp [TrackControl.advanceLine, step] at advancing
    | held m step =>
      rcases step with step | step <;> simp [TrackControl.advanceLine, step] at advancing

/-- The completion of a suspended step: the line stays HELD, or is STOPPED where the drain ends. -/
theorem MotionRow.completeSuspended {s : State} (row : MotionRow s.track)
    (suspended : s.track.step = .suspended) : MotionRow s.completeSuspended.1.track := by
  obtain ⟨m, owed, count, long⟩ := row.held_of_suspended suspended
  change MotionRow { s.shift.1.track with step := .idle }
  cases drain : s.drainEnds with
  | true => exact .shift_drained drain
  | false =>
    rw [shift_track_of_noDrain drain]
    exact .held m (.inl rfl) owed count (by simpa [TrackControl.length] using long)

theorem finishShift_length (s : State) : s.finishShift.1.track.length = s.track.length := by
  unfold State.finishShift
  split
  · exact (beginSettling_keeps_track s).2
  all_goals rfl

theorem shift_moving {s : State} (m : s.shift.1.track.motion ≠ .stopped) :
    s.track.motion ≠ .stopped := by
  cases drain : s.drainEnds with
  | true => rw [shift_track_of_drain drain] at m; exact absurd rfl m
  | false => rw [shift_track_of_noDrain drain] at m; exact m

theorem finishShift_moving {s : State} (m : s.finishShift.1.track.motion ≠ .stopped) :
    s.track.motion ≠ .stopped := by
  unfold State.finishShift at m
  cases h : s.track.motion with
  | stopped => rw [h] at m; exact absurd h m
  | _ => simp

/-- A shift keeps lock and RECONFIGURE claim. -/
theorem MotionInv.shifted {s t : State} (h : MotionInv s) (row : MotionRow t.track)
    (length : t.track.length = s.track.length) (lock : t.authority.lock = s.authority.lock)
    (free : t.authority.claims.reconfigure = s.authority.claims.reconfigure)
    (moving : t.track.motion ≠ .stopped → s.track.motion ≠ .stopped) : MotionInv t := by
  have ⟨_, long, locked, unclaimed⟩ := (motionInv_iff s).1 h
  refine (motionInv_iff t).2 ⟨row, length ▸ long, fun m => ?_, fun l => ?_⟩
  · rw [lock]; exact locked (moving m)
  · rw [free]; exact unclaimed (lock ▸ l)

theorem MotionInv.normalShift {s : State} (h : MotionInv s)
    (advancing : s.track.advanceLine = true) : MotionInv s.normalShift.1 := by
  have authority : s.normalShift.1.authority = s.shift.1.authority := finishShift_authority s.shift.1
  refine h.shifted (h.row.normalShift advancing) ?_ ?_ ?_ fun m => shift_moving (finishShift_moving m)
  · exact (finishShift_length s.shift.1).trans (shift_length s)
  · rw [authority, shift_authority]
  · rw [authority, shift_authority]

theorem MotionInv.completeSuspended {s : State} (h : MotionInv s)
    (suspended : s.track.step = .suspended) : MotionInv s.completeSuspended.1 := by
  have authority : s.completeSuspended.1.authority = s.shift.1.authority := rfl
  refine h.shifted (h.row.completeSuspended suspended) (shift_length s) ?_ ?_ shift_moving
  · rw [authority, shift_authority]
  · rw [authority, shift_authority]

/-! ## Entry to STOPPED (R60, R62, R152) -/

theorem MotionRow.enterStopped {t : TrackControl} (empty : t.isEmpty = true) (step : t.step = .idle) :
    MotionRow t.enterStopped :=
  .stopped rfl empty step rfl rfl rfl

/-- The check for the end of a drain keeps the invariant while the step is IDLE. -/
theorem MotionInv.checkDrain {s : State} (h : MotionInv s) (step : s.track.step = .idle) :
    MotionInv s.checkDrain := by
  unfold State.checkDrain
  split
  · next drained =>
    exact h.shifted (.enterStopped drained.2 step) rfl rfl rfl fun m => absurd rfl m
  · exact h

/-! ## Claims and the lock (R84, R146, R147) -/

theorem loseClaim_authority (s : State) (k : ClaimKind) :
    (s.loseClaim k).authority.lock = s.authority.lock ∧
      (s.authority.claims.reconfigure = none →
        (s.loseClaim k).authority.claims.reconfigure = none) := by
  cases k with
  | changeover => exact ⟨by simp [State.loseClaim], by simp [State.loseClaim, Claims.setHolder]⟩
  | purge =>
    unfold State.loseClaim State.cancelDrain
    dsimp only
    split <;> exact ⟨rfl, id⟩
  | reconfigure => exact ⟨rfl, fun _ => rfl⟩

theorem MotionInv.loseClaim {s : State} (h : MotionInv s) (k : ClaimKind) : MotionInv (s.loseClaim k) :=
  h.congr (loseClaim_track s k) (loseClaim_authority s k).1 (loseClaim_authority s k).2

theorem MotionInv.loseClaimOf {s : State} (h : MotionInv s) (link : Link) (k : ClaimKind) :
    MotionInv (s.loseClaimOf link k) := by
  unfold State.loseClaimOf
  split
  · exact h.loseClaim k
  · exact h

theorem MotionInv.resetLink {s : State} (h : MotionInv s) (link : Link) : MotionInv (s.resetLink link) := by
  have reset : MotionInv ((s.changeLink link LinkChannel.afterBreak).emptyNotes link) :=
    h.congr rfl rfl id
  exact ((reset.loseClaimOf link _).loseClaimOf link _).loseClaimOf link _

/-- Granting RECONFIGURE clears the lock, of a line that stands (R145, R146). -/
theorem MotionInv.grant {s : State} (h : MotionInv s) (link : Link) {k : ClaimKind}
    (condition : s.grantable k = true) : MotionInv (s.grant link k) := by
  cases k with
  | reconfigure =>
    rw [grantable_reconfigure, decide_eq_true_eq] at condition
    have ⟨row, length, _⟩ := (motionInv_iff s).1 h
    exact (motionInv_iff _).2 ⟨row, length, fun moving => absurd condition.1 moving, nofun⟩
  | _ => exact h.congr rfl rfl id

/-- Setting the lock releases the RECONFIGURE claim (R157). -/
theorem MotionInv.lockConfig {s : State} (h : MotionInv s) :
    MotionInv ((s.setHolder .reconfigure none).mapAuthority fun a => { a with lock := true }) := by
  have ⟨row, length, _⟩ := (motionInv_iff s).1 h
  exact (motionInv_iff _).2 ⟨row, length, fun _ => rfl, fun _ => rfl⟩

/-! ## The requests on motion -/

/-- START runs a locked part with a track, and an asserted HOLD line holds it at once (R56). -/
theorem MotionInv.start {s : State} (h : MotionInv s) (stopped : s.track.motion = .stopped)
    (locked : s.authority.lock = true) (long : s.track.length ≠ 0) (mode : AdmissionMode) :
    MotionInv ((s.mapTrack TrackControl.start).setMode mode) := by
  obtain ⟨_, step, causes⟩ := h.stoppedRests stopped
  have running : MotionRow { s.track with motion := .running, cadenceCount := 0 } :=
    .running rfl causes (by simp [step])
      (fun owed => absurd (h.owedRuns owed).1 (by simp [stopped])) long
  refine (motionInv_iff _).2 ⟨?_, ?_, fun _ => locked, h.lockedFree⟩
  · change MotionRow s.track.start
    unfold TrackControl.start
    dsimp only
    split
    · exact running.addCause (by decide) (by decide)
    · exact running
  · have same : s.track.start.length = s.track.length := by
      unfold TrackControl.start; dsimp only; split <;> simp [TrackControl.length]
    exact same ▸ h.length

theorem MotionInv.resumeHeld {s : State} (h : MotionInv s) (held : s.track.motion = .held)
    (notSuspended : s.track.step ≠ .suspended) : MotionInv (s.mapTrack TrackControl.resumeHeld) :=
  h.track
    (.running rfl rfl notSuspended (fun owed => absurd (h.owedRuns owed).1 (by simp [held]))
      (h.movingLong (by simp [held]))) rfl rfl (by simp [held])

theorem MotionInv.resumeHolding {s : State} (h : MotionInv s) (holding : s.track.motion = .holding) :
    MotionInv (s.mapTrack TrackControl.resumeHolding) := by
  have advancing := (h.holdingAdvances holding).1
  have notSuspended : s.track.step ≠ .suspended := fun e => by
    simp [TrackControl.advanceLine, e] at advancing
  exact h.track
    (.running rfl rfl notSuspended (fun owed => absurd (h.owedRuns owed).1 (by simp [holding]))
      (h.movingLong (by simp [holding]))) rfl rfl (by simp [holding])

theorem MotionInv.stopLine {s : State} (h : MotionInv s) (rest : s.track.atRest = true) :
    MotionInv s.stopLine := by
  simp only [TrackControl.atRest, Bool.and_eq_true, decide_eq_true_eq] at rest
  have stopped : MotionInv (s.mapTrack TrackControl.enterStopped) :=
    h.track (.enterStopped rest.1 rest.2) rfl rfl fun m => absurd rfl m
  exact stopped.checkDrain rest.2

theorem MotionInv.beginDrain {s : State} (h : MotionInv s) : MotionInv s.beginDrain := by
  have draining : MotionInv ((s.setMode .closed).mapAuthority fun a => { a with drain := true }) :=
    h.congr rfl rfl id
  unfold State.beginDrain
  dsimp only
  split
  · next idle => exact draining.checkDrain idle
  · exact draining

/-- A change of the track controller that leaves what the table looks at. -/
theorem MotionRow.congr {t u : TrackControl} (row : MotionRow t) (slots : u.slots = t.slots)
    (motion : u.motion = t.motion) (causes : u.causes = t.causes) (step : u.step = t.step)
    (owed : u.owed = t.owed) (count : t.cadenceCount = 0 → u.cadenceCount = 0) : MotionRow u := by
  obtain ⟨slots', motion', causes', step', owed', count', _⟩ := u
  dsimp only at slots motion causes step owed count
  subst slots motion causes step owed
  cases row with
  | stopped m empty step causes owed c => exact .stopped m empty step causes owed (count c)
  | running m causes step owed long => exact .running m causes step owed long
  | holding m step motion exit owed long => exact .holding m step motion exit owed long
  | held m step owed c long => exact .held m step owed (count c) long

theorem MotionRow.setCadence {t : TrackControl} (row : MotionRow t) (compare : Nat) :
    MotionRow (t.setCadence compare) :=
  row.congr rfl rfl rfl rfl rfl fun zero => by simp [TrackControl.setCadence, zero]

/-- CONFIRM lets a step in EXIT_WAIT go on (R44). -/
theorem MotionInv.confirmHead {s : State} (h : MotionInv s) (id : Nat) :
    MotionInv (s.confirmHead id).1 := by
  unfold State.confirmHead
  dsimp only
  split
  · next n step =>
    have m : s.track.motion = .running :=
      h.row.running_of_waiting (by simp [step]) (by simp [TrackControl.advanceLine, step])
        (by simp [step])
    have e : ({ s.deleteRod id with exitQueue := s.exitQueue.tail } : State).enterAdvancing.1.track =
        { s.track with step := .advancing s.track.advanceLimit } := by
      simp [State.enterAdvancing]
    refine h.track ?_ ?_ (by simp) (by simp [m]) <;> rw [e]
    · exact .running m (h.runningFree m).1 (by simp) (by simp) (h.movingLong (by simp [m]))
    · rfl
  all_goals exact h.congr (deleteRod_track s id) (by simp) (by simp)

theorem MotionInv.abandonSuspended {s : State} (h : MotionInv s)
    (suspended : s.track.step = .suspended) : MotionInv s.abandonSuspended := by
  obtain ⟨m, owed, count, long⟩ := h.row.held_of_suspended suspended
  have e : s.abandonSuspended.track = { s.track with step := .idle } := by
    unfold State.abandonSuspended; split <;> rfl
  refine h.track ?_ ?_ (abandonSuspended_authority s) (by simp [m]) <;> rw [e]
  · exact .held m (.inl rfl) owed count long
  · rfl

/-! ## The lines and the timers -/

theorem MotionRow.holdLineFalls {t : TrackControl} (row : MotionRow t) :
    MotionRow t.holdLineFalls := by
  cases row with
  | stopped m empty step causes owed c =>
    exact .stopped m empty step (by simp [TrackControl.holdLineFalls, causes]) owed c
  | running m causes step owed long =>
    exact .running m (by simp [TrackControl.holdLineFalls, causes]) step owed long
  | holding m step motion exit owed long => exact .holding m step motion exit owed long
  | held m step owed c long => exact .held m step owed c long

theorem MotionRow.holdLineRises {t : TrackControl} (row : MotionRow t) :
    MotionRow t.holdLineRises := by
  unfold TrackControl.holdLineRises
  split
  · exact row
  · have raised : MotionRow { t with holdLine := true } := row.congr rfl rfl rfl rfl rfl id
    exact raised.addCause (by decide) (by decide)

theorem holdLineRises_keeps (t : TrackControl) :
    t.holdLineRises.length = t.length ∧ (t.holdLineRises.motion = .stopped ↔ t.motion = .stopped) := by
  unfold TrackControl.holdLineRises
  split
  · exact ⟨rfl, .rfl⟩
  · simp [TrackControl.length]

/-- A cadence expiry in RUNNING begins a step or owes one (R28). -/
theorem MotionInv.cadenceEffect {s : State} (h : MotionInv s) : MotionInv s.cadenceEffect.1 := by
  unfold State.cadenceEffect
  split
  · next m _ =>
    obtain ⟨motion, length⟩ := beginStep_keeps_track s
    exact h.track (.beginStep m (h.runningFree m).1 (h.movingLong (by simp [m]))) length
      (beginStep_authority s) (by simp [m])
  · exact h
  · next m notIdle _ =>
    obtain ⟨causes, step⟩ := h.runningFree m
    exact h.track (.running m causes step (fun _ => notIdle) (h.movingLong (by simp [m]))) rfl rfl id
  · exact h

theorem MotionInv.cadence {s : State} (h : MotionInv s) :
    MotionInv (s.mapTrack fun t => { t with cadenceCount := 0 }).cadenceEffect.1 :=
  (h.track (t := s.mapTrack fun t => { t with cadenceCount := 0 })
    (h.row.congr rfl rfl rfl rfl rfl fun _ => rfl) rfl rfl id).cadenceEffect

theorem MotionInv.settle {s : State} (h : MotionInv s) (due : s.track.settleDue = true) :
    MotionInv s.endSettling.1 := by
  have step : s.track.step = .settling 0 := by simpa [TrackControl.settleDue] using due
  have m : s.track.motion = .running :=
    h.row.running_of_waiting (by simp [step]) (by simp [TrackControl.advanceLine, step]) (by simp [step])
  obtain ⟨motion, length⟩ := endSettling_keeps_track s
  exact h.track (.endSettling m (h.runningFree m).1 (h.movingLong (by simp [m]))) length
    (endSettling_authority s) (by simp [m])

/-- The two limits of a step end in HELD. -/
theorem MotionInv.suspend {s : State} (h : MotionInv s) (due : s.track.advanceLimitDue = true) :
    MotionInv (s.mapTrack TrackControl.suspend) := by
  have step : s.track.step = .advancing 0 := by simpa [TrackControl.advanceLimitDue] using due
  have moving : s.track.motion ≠ .stopped := fun m => by
    have idle := (h.stoppedRests m).2.1
    rw [step] at idle
    cases idle
  exact h.track (.held rfl (.inr rfl) rfl rfl (h.movingLong moving)) rfl rfl fun _ => moving

theorem MotionInv.withdrawStep {s : State} (h : MotionInv s) (due : s.track.exitWaitDue = true) :
    MotionInv (s.mapTrack TrackControl.withdrawStep) := by
  have step : s.track.step = .exitWait 0 := by simpa [TrackControl.exitWaitDue] using due
  have moving : s.track.motion ≠ .stopped := fun m => by
    have idle := (h.stoppedRests m).2.1
    rw [step] at idle
    cases idle
  exact h.track (.held rfl (.inl rfl) rfl rfl (h.movingLong moving)) rfl rfl fun _ => moving

@[simp] theorem tick_eq_idle (p : StepState) : p.tick = .idle ↔ p = .idle := by
  cases p <;> simp [StepState.tick]

@[simp] theorem tick_eq_suspended (p : StepState) : p.tick = .suspended ↔ p = .suspended := by
  cases p <;> simp [StepState.tick]

@[simp] theorem trackTick_step (t : TrackControl) : t.tick.step = t.step.tick := by
  unfold TrackControl.tick; split <;> rfl

@[simp] theorem trackTick_advanceLine (t : TrackControl) : t.tick.advanceLine = t.advanceLine := by
  unfold TrackControl.advanceLine
  rw [trackTick_step]
  cases t.step <;> rfl

/-- A base tick counts, and moves no sub-state (R25, R26). -/
theorem MotionRow.tick {t : TrackControl} (row : MotionRow t) : MotionRow t.tick := by
  cases row with
  | stopped m empty step causes owed count =>
    have e : t.tick = { t with step := t.step.tick } := by simp [TrackControl.tick, m]
    rw [e]
    exact .stopped m empty ((tick_eq_idle _).2 step) causes owed count
  | running m causes step owed long =>
    have e : t.tick = { t with
        step := t.step.tick, cadenceCount := min Config.wordMax (t.cadenceCount + 1) } := by
      simp [TrackControl.tick, m]
    rw [e]
    exact .running m causes (mt (tick_eq_suspended _).1 step)
      (fun o => mt (tick_eq_idle _).1 (owed o)) long
  | holding m step motion exit owed long =>
    have line := (trackTick_advanceLine t).trans step
    have e : t.tick = { t with
        step := t.step.tick, cadenceCount := min Config.wordMax (t.cadenceCount + 1) } := by
      simp [TrackControl.tick, m]
    rw [e] at line ⊢
    exact .holding m line motion exit owed long
  | held m step owed count long =>
    have e : t.tick = { t with step := t.step.tick } := by simp [TrackControl.tick, m]
    rw [e]
    exact .held m (step.imp (tick_eq_idle _).2 (tick_eq_suspended _).2) owed count long

theorem trackTick_keeps (t : TrackControl) :
    t.tick.length = t.length ∧ t.tick.motion = t.motion := by
  unfold TrackControl.tick; split <;> exact ⟨rfl, rfl⟩

/-! ## The two kinds of changes -/

theorem MotionInv.lineMove {s t : State} (move : LineMove s t) (h : MotionInv s) : MotionInv t := by
  cases move with
  | break_ link => exact h.resetLink link
  | holdRises =>
    obtain ⟨length, stopped⟩ := holdLineRises_keeps s.track
    exact h.track h.row.holdLineRises length rfl (mt stopped.2)
  | holdFalls => exact h.track h.row.holdLineFalls rfl rfl id
  | doneLine level => exact h.track (h.row.congr rfl rfl rfl rfl rfl id) rfl rfl id
  | shift advancing => exact h.normalShift advancing
  | late suspended => exact h.completeSuspended suspended
  | cadence due => exact h.cadence
  | settle due => exact h.settle due
  | suspend due => exact h.suspend due
  | withdrawStep due => exact h.withdrawStep due
  | exposure due => exact h.congr rfl rfl id
  | count =>
    obtain ⟨length, motion⟩ := trackTick_keeps s.track
    exact h.track h.row.tick length rfl (motion ▸ id)

theorem MotionInv.effect {link : Link} {s t : State} (e : Effect link s t) (h : MotionInv s) :
    MotionInv t := by
  cases e with
  | hang => exact h.congr (hangRod_track s _ _ _) (by simp) (by simp)
  | withdraw => exact h.congr (deleteRod_track s _) (by simp) (by simp)
  | start stopped locked long => exact h.start stopped locked long _
  | hold moving => exact h.addCause (by decide) (by decide)
  | resumeHeld held notSuspended => exact h.resumeHeld held notSuspended
  | resumeHolding holding => exact h.resumeHolding holding
  | stop moving rest => exact h.stopLine rest
  | setCadence compare => exact h.track (h.row.setCadence compare) rfl rfl id
  | confirmStep suspended => exact h.completeSuspended suspended
  | abandonStep suspended => exact h.abandonSuspended suspended
  | confirm head => exact h.confirmHead _
  | climate taken => exact h.congr (offerCapture_track s _ _) (by simp) (by simp)
  | claim permitted condition => exact h.grant link condition
  | release held => exact h.loseClaim _
  | purge held moving => exact h.beginDrain
  | lockConfig unlocked => exact h.lockConfig
  | trackLength unlocked range within =>
    have stopped : s.track.motion = .stopped := not_not.1 fun moving => by
      rw [h.movingLocked moving] at unlocked
      cases unlocked
    obtain ⟨_, step, causes⟩ := h.stoppedRests stopped
    refine (motionInv_iff _).2 ⟨?_, .inr ?_, h.movingLocked, h.lockedFree⟩
    · refine .stopped stopped ?_ step causes (notOwed_of h.owedRuns ?_) (h.countRests (.inl stopped))
      · simp [TrackControl.isEmpty]
      · simp [stopped]
    · simpa [TrackControl.length] using range
  | interval v k unlocked =>
    cases k with
    | settle | advanceLimit | exitWaitLimit =>
      exact h.track (h.row.congr rfl rfl rfl rfl rfl id) rfl rfl id
    | _ => exact h.congr rfl rfl id
  | _ => exact h.congr rfl rfl id

/-! ## O5's clause and O6 -/

theorem motionInv_of_reset {s : State} {holdLine doneLine : Bool}
    (track : s.track = TrackControl.reset holdLine doneLine) (lock : s.authority.lock = false) :
    MotionInv s := by
  rw [motionInv_iff, track]
  refine ⟨.stopped rfl rfl rfl rfl rfl rfl, .inl rfl, fun moving => absurd rfl moving, ?_⟩
  rw [lock]
  nofun

/-- Settles O6: every elementary change leads from a row of the motion table to a row of it. -/
theorem stepKeepsMotion : Obligations.StepKeepsMotion := by
  intro s t h e
  exact step_keeps (fun _ _ => MotionInv.linkMove) (fun _ _ h => h.congr rfl rfl id)
    (fun _ _ _ => MotionInv.effect) (fun _ _ => MotionInv.lineMove)
    (fun _ _ => motionInv_of_reset rfl rfl) h e

end Sys2Proof.Machine
end

section
/-! PROOFS. Claims, drain and admission mode (R72, R144, R150 to R153): that every elementary change
keeps them related. -/

namespace Sys2Proof.Machine

/-! ## What the invariant looks at -/

/-- Classes, claims, drain and mode stand, a running format stays, and STOPPED is neither entered nor
left. -/
theorem ClaimInv.congr {s t : State} (h : ClaimInv s)
    (class_ : ∀ l : Link, t.links[l].class_ = s.links[l].class_)
    (claims : t.authority.claims = s.authority.claims)
    (drain : t.authority.drain = s.authority.drain) (mode : t.admission.mode = s.admission.mode)
    (running : s.admission.running.isSome = true → t.admission.running.isSome = true)
    (stopped : t.track.motion = .stopped ↔ s.track.motion = .stopped) : ClaimInv t where
  changeoverClass l := by rw [claims, class_]; exact h.changeoverClass l
  purgeClass l := by rw [claims, class_]; exact h.purgeClass l
  reconfigureClass l := by rw [claims, class_]; exact h.reconfigureClass l
  exclusive := by rw [claims]; exact h.exclusive
  drainClosed := by rw [claims, drain, mode, Ne, stopped]; exact h.drainClosed
  changeoverHeld p g e := by
    rw [mode] at e
    rw [claims]
    exact ⟨(h.changeoverHeld p g e).1, running (h.changeoverHeld p g e).2⟩
  closedFree := by rw [mode, claims]; exact h.closedFree
  closedRests := by rw [mode, drain, stopped]; exact h.closedRests

/-- A change of the track controller that neither enters nor leaves STOPPED. -/
theorem ClaimInv.mapTrack {s : State} (h : ClaimInv s) (f : TrackControl → TrackControl)
    (stopped : (f s.track).motion = .stopped ↔ s.track.motion = .stopped) :
    ClaimInv (s.mapTrack f) :=
  h.congr (fun _ => rfl) rfl rfl rfl id stopped

theorem ClaimInv.linkMove {s t : State} (move : LinkMove s t) (h : ClaimInv s) : ClaimInv t := by
  cases move with
  | channel link f class_ => exact h.congr (changeLink_class s link class_) rfl rfl rfl id .rfl
  | event c =>
    refine h.congr (by simp) (by simp) (by simp) (by simp) (by simp) ?_
    rw [route_track]
    split <;> simp

/-! ## The end of claims and drains (R83, R84, R147, R153) -/

/-- A claim table with a holder given up keeps the classes of the others. -/
theorem ClaimInv.dropHolder {s t : State} (h : ClaimInv s) {k : ClaimKind}
    (links : t.links = s.links) (claims : t.authority.claims = s.authority.claims.setHolder k none)
    (drainClosed : t.authority.drain = true → t.authority.claims.purge.isSome = true ∧
      t.admission.mode = .closed ∧ t.track.motion ≠ .stopped)
    (changeoverHeld : ∀ p g, t.admission.mode = .changeover p g →
      t.authority.claims.changeover.isSome = true ∧ t.admission.running.isSome = true)
    (closedFree : t.admission.mode = .closed → t.authority.claims.changeover = none)
    (closedRests : t.admission.mode = .closed →
      t.authority.drain = true ∨ t.track.motion = .stopped) : ClaimInv t := by
  have exclusive := h.exclusive
  refine ⟨?_, ?_, ?_, ?_, drainClosed, changeoverHeld, closedFree, closedRests⟩
  all_goals rw [claims]; try rw [links]
  · intro l e
    cases k with
    | changeover => cases e
    | _ => exact h.changeoverClass l e
  · intro l e
    cases k with
    | purge => cases e
    | _ => exact h.purgeClass l e
  · intro l e
    cases k with
    | reconfigure => cases e
    | _ => exact h.reconfigureClass l e
  · cases k with
    | changeover => exact .inl rfl
    | purge => exact .inr rfl
    | reconfigure => exact exclusive

theorem ClaimInv.loseChangeover {s : State} (h : ClaimInv s) : ClaimInv (s.loseClaim .changeover) := by
  have noDrain (open_ : s.admission.mode ≠ .closed) : s.authority.drain ≠ true := fun drain =>
    open_ (h.drainClosed drain).2.1
  unfold State.loseClaim State.cancelPending
  dsimp only
  split
  · next p g mode =>
    have mode : s.admission.mode = .changeover p g := mode
    exact h.dropHolder (k := .changeover) rfl rfl
      (fun drain => absurd drain (noDrain (by simp [mode]))) nofun nofun nofun
  · next mode =>
    have mode : s.admission.mode = .open_ := mode
    exact h.dropHolder (k := .changeover) rfl rfl
      (fun drain => absurd drain (noDrain (by simp [mode])))
      (fun p g e => by cases mode.symm.trans e) (fun _ => rfl) (fun e => by cases mode.symm.trans e)
  · next mode =>
    have mode : s.admission.mode = .closed := mode
    exact h.dropHolder (k := .changeover) rfl rfl h.drainClosed
      (fun p g e => by cases mode.symm.trans e) (fun _ => rfl) h.closedRests

theorem ClaimInv.losePurge {s : State} (h : ClaimInv s) : ClaimInv (s.loseClaim .purge) := by
  unfold State.loseClaim State.cancelDrain
  dsimp only
  split
  · exact h.dropHolder (k := .purge) rfl rfl nofun nofun nofun nofun
  · next drain =>
    have drain : ¬ s.authority.drain = true := drain
    exact h.dropHolder (k := .purge) rfl rfl (fun d => absurd d drain) h.changeoverHeld
      h.closedFree h.closedRests

theorem ClaimInv.loseClaim {s : State} (h : ClaimInv s) (k : ClaimKind) :
    ClaimInv (s.loseClaim k) := by
  cases k with
  | changeover => exact h.loseChangeover
  | purge => exact h.losePurge
  | reconfigure =>
    exact h.dropHolder (k := .reconfigure) rfl rfl h.drainClosed h.changeoverHeld h.closedFree
      h.closedRests

theorem ClaimInv.loseClaimOf {s : State} (h : ClaimInv s) (link : Link) (k : ClaimKind) :
    ClaimInv (s.loseClaimOf link k) := by
  unfold State.loseClaimOf
  split
  · exact h.loseClaim k
  · exact h

theorem ClaimInv.resetLink {s : State} (h : ClaimInv s) (link : Link) :
    ClaimInv (s.resetLink link) := by
  have reset : ClaimInv ((s.changeLink link LinkChannel.afterBreak).emptyNotes link) :=
    h.congr (changeLink_class s link fun _ => rfl) rfl rfl rfl id .rfl
  exact ((reset.loseClaimOf link _).loseClaimOf link _).loseClaimOf link _

/-! ## Grants and modes (R57, R78, R145, R150) -/

theorem holder_of_holds {s : State} {link : Link} {k : ClaimKind} (held : s.holds link k = true) :
    s.authority.claims.holder k = some link := by
  simpa [State.holds] using held

theorem ClaimInv.grant {s : State} (h : ClaimInv s) {link : Link} {k : ClaimKind}
    (permitted : k.permits s.links[link].class_ = true) (condition : s.grantable k = true) :
    ClaimInv (s.grant link k) := by
  have holder {l : Link} (e : some link = some l) : l = link := (Option.some.inj e).symm
  cases k with
  | changeover =>
    simp only [State.grantable, Bool.and_eq_true, decide_eq_true_eq, Option.isNone_iff_eq_none]
      at condition
    obtain ⟨mode, purge⟩ := condition
    rw [permits_changeover, isSupervisorOrSpreader_iff] at permitted
    exact ⟨fun l e => holder e ▸ permitted, h.purgeClass, h.reconfigureClass, .inr purge,
      h.drainClosed, fun p g e => ⟨rfl, (h.changeoverHeld p g e).2⟩,
      fun e => (by cases mode.symm.trans e), h.closedRests⟩
  | purge =>
    simp only [grantable_purge, Bool.and_eq_true, Option.isNone_iff_eq_none] at condition
    rw [permits_purge, decide_eq_true_eq] at permitted
    exact ⟨h.changeoverClass, fun l e => holder e ▸ permitted, h.reconfigureClass,
      .inl condition.2, fun drain => ⟨rfl, (h.drainClosed drain).2⟩, h.changeoverHeld,
      h.closedFree, h.closedRests⟩
  | reconfigure =>
    rw [permits_reconfigure, decide_eq_true_eq] at permitted
    exact ⟨h.changeoverClass, h.purgeClass, fun l e => holder e ▸ permitted, h.exclusive,
      h.drainClosed, h.changeoverHeld, h.closedFree, h.closedRests⟩

theorem ClaimInv.setMode {s : State} (h : ClaimInv s) {mode : AdmissionMode}
    (notClosed : mode ≠ .closed) (before : s.admission.mode ≠ .closed)
    (changeover : ∀ p g, mode = .changeover p g →
      s.authority.claims.changeover.isSome = true ∧ s.admission.running.isSome = true) :
    ClaimInv (s.setMode mode) :=
  ⟨h.changeoverClass, h.purgeClass, h.reconfigureClass, h.exclusive,
    fun drain => absurd (h.drainClosed drain).2.1 before, changeover,
    fun closed => absurd closed notClosed, fun closed => absurd closed notClosed⟩

/-- START opens an admission that a purge has closed (R57). -/
theorem ClaimInv.start {s : State} (h : ClaimInv s) (stopped : s.track.motion = .stopped) :
    ClaimInv ((s.mapTrack TrackControl.start).setMode s.admission.mode.reopened) := by
  have noDrain : s.authority.drain ≠ true := fun drain => (h.drainClosed drain).2.2 stopped
  have notClosed : s.admission.mode.reopened ≠ .closed := by
    cases s.admission.mode <;> simp [AdmissionMode.reopened]
  refine ⟨h.changeoverClass, h.purgeClass, h.reconfigureClass, h.exclusive,
    fun drain => absurd drain noDrain, fun p g e => ?_, fun closed => absurd closed notClosed,
    fun closed => absurd closed notClosed⟩
  have e : s.admission.mode.reopened = .changeover p g := e
  refine h.changeoverHeld p g ?_
  cases mode : s.admission.mode <;> simp_all [AdmissionMode.reopened]

/-- The completion of a drain: STOPPED and CLOSED, and the PURGE claim released (R152). -/
theorem ClaimInv.completeDrain {s : State} (h : ClaimInv s) (drain : s.authority.drain = true) :
    ClaimInv s.completeDrain := by
  obtain ⟨_, mode, _⟩ := h.drainClosed drain
  exact h.dropHolder (k := .purge) rfl rfl nofun
    (fun p g e => by cases mode.symm.trans e) h.closedFree (fun _ => .inr rfl)

theorem ClaimInv.checkDrain {s : State} (h : ClaimInv s) : ClaimInv s.checkDrain := by
  unfold State.checkDrain
  split
  · next drained => exact h.completeDrain drained.1
  · exact h

/-- PURGE closes admission and begins to drain, on a line that moves (R150). -/
theorem ClaimInv.beginDrain {s : State} {link : Link} (h : ClaimInv s)
    (held : s.holds link .purge = true) (moving : s.track.motion ≠ .stopped) :
    ClaimInv s.beginDrain := by
  have holder : s.authority.claims.purge = some link := holder_of_holds held
  have free : s.authority.claims.changeover = none :=
    h.exclusive.resolve_right (by rw [holder]; simp)
  have draining : ClaimInv ((s.setMode .closed).mapAuthority fun a => { a with drain := true }) :=
    ⟨h.changeoverClass, h.purgeClass, h.reconfigureClass, h.exclusive,
      fun _ => ⟨Option.isSome_iff_exists.2 ⟨link, holder⟩, rfl, moving⟩, nofun,
      fun _ => free, fun _ => .inl rfl⟩
  unfold State.beginDrain
  dsimp only
  split
  · exact draining.checkDrain
  · exact draining

/-- STOP ends a drain, since the track holds no rod (R60). -/
theorem ClaimInv.stopLine {s : State} (h : ClaimInv s) (rest : s.track.atRest = true) :
    ClaimInv s.stopLine := by
  have empty : s.track.isEmpty = true := by
    simp only [TrackControl.atRest, Bool.and_eq_true] at rest
    exact rest.1
  unfold State.stopLine State.checkDrain
  split
  · next drained =>
    obtain ⟨_, mode, _⟩ := h.drainClosed drained.1
    exact h.dropHolder (k := .purge) rfl rfl nofun
      (fun p g e => by cases mode.symm.trans e) h.closedFree (fun _ => .inr rfl)
  · next noDrain =>
    have noDrain : ¬ s.authority.drain = true := fun drain => noDrain ⟨drain, empty⟩
    exact ⟨h.changeoverClass, h.purgeClass, h.reconfigureClass, h.exclusive,
      fun drain => absurd drain noDrain, h.changeoverHeld, h.closedFree, fun _ => .inr rfl⟩

/-! ## The shift (R33, R81, R152) -/

/-- A completed changeover runs its format. -/
theorem shift_running {s : State} (running : s.admission.running.isSome = true) :
    s.shift.1.admission.running.isSome = true := by
  rw [shift_admission_eq]
  cases s.completedFormat with
  | none => exact running
  | some f => rfl

/-- A part with the claims, the drain and the mode that a shift leaves, STOPPED where it was or where
the drain ends. -/
theorem ClaimInv.shifted {s t : State} (h : ClaimInv s) (links : t.links = s.links)
    (authority : t.authority = s.shift.1.authority)
    (mode : t.admission.mode = s.shift.1.admission.mode)
    (running : t.admission.running = s.shift.1.admission.running)
    (stopped : t.track.motion = .stopped ↔ s.shift.1.track.motion = .stopped) : ClaimInv t := by
  rw [shift_authority] at authority
  rw [shift_admission] at mode
  dsimp only at mode
  have motion : t.track.motion = .stopped ↔ s.drainEnds = true ∨ s.track.motion = .stopped := by
    rw [stopped]
    cases drain : s.drainEnds with
    | true => rw [shift_track_of_drain drain]; simp
    | false => rw [shift_track_of_noDrain drain]; simp
  have started {p g} (e : t.admission.mode = .changeover p g) :
      s.completesChangeover s.admission.boarding = false ∧ s.admission.mode = .changeover p g := by
    rw [e] at mode
    split at mode
    · cases mode
    · next c => exact ⟨by simpa using c, mode.symm⟩
  have closed (e : t.admission.mode = .closed) : s.admission.mode = .closed := by
    rw [e] at mode
    split at mode
    · cases mode
    · exact mode.symm
  have reopens (c : s.completesChangeover s.admission.boarding = true) :
      s.admission.mode ≠ .closed := fun e => by
    unfold State.completesChangeover at c
    rw [e] at c
    cases c
  refine ⟨?_, ?_, ?_, ?_, ?_, fun p g e => ?_, fun e => ?_, fun e => ?_⟩
  · rw [authority, links]
    intro l e
    dsimp only at e
    split at e
    · cases e
    · exact h.changeoverClass l e
  · rw [authority, links]
    intro l e
    dsimp only at e
    split at e
    · cases e
    · exact h.purgeClass l e
  · rw [authority, links]
    exact h.reconfigureClass
  · rw [authority]
    exact h.exclusive.imp (fun e => by dsimp only; split <;> simp [e])
      (fun e => by dsimp only; split <;> simp [e])
  · rw [authority]
    cases drain : s.drainEnds with
    | true => nofun
    | false =>
      intro d
      obtain ⟨purge, m, moving⟩ := h.drainClosed d
      refine ⟨purge, ?_, fun e => ?_⟩
      · rw [mode, if_neg fun c => reopens c m]; exact m
      · rw [motion, drain] at e; exact e.elim nofun moving
  · obtain ⟨notCompleted, m⟩ := started e
    rw [authority, running, notCompleted]
    exact ⟨(h.changeoverHeld p g m).1, shift_running (h.changeoverHeld p g m).2⟩
  · rw [authority, Bool.eq_false_iff.2 fun c => reopens c (closed e)]
    exact h.closedFree (closed e)
  · rw [authority, motion]
    cases drain : s.drainEnds with
    | true => exact .inr (.inl rfl)
    | false => exact (h.closedRests (closed e)).imp id .inr

theorem bindChoice_keeps (s : State) :
    s.bindChoice.1.admission.mode = s.admission.mode ∧
      s.bindChoice.1.admission.running = s.admission.running := by
  unfold State.bindChoice; split <;> exact ⟨rfl, rfl⟩

theorem beginStep_keeps_admission (s : State) :
    s.beginStep.1.admission.mode = s.admission.mode ∧
      s.beginStep.1.admission.running = s.admission.running := by
  unfold State.beginStep
  split
  · exact ⟨rfl, rfl⟩
  · exact bindChoice_keeps s

theorem endSettling_keeps_admission (s : State) :
    s.endSettling.1.admission.mode = s.admission.mode ∧
      s.endSettling.1.admission.running = s.admission.running := by
  unfold State.endSettling
  split
  · exact beginStep_keeps_admission _
  · exact ⟨rfl, rfl⟩

theorem finishShift_keeps_admission (s : State) :
    s.finishShift.1.admission.mode = s.admission.mode ∧
      s.finishShift.1.admission.running = s.admission.running := by
  unfold State.finishShift State.beginSettling
  split
  · split
    · exact endSettling_keeps_admission s
    · exact ⟨rfl, rfl⟩
  all_goals exact ⟨rfl, rfl⟩

/-- The end of a shift neither enters nor leaves STOPPED. -/
theorem finishShift_stopped (s : State) :
    s.finishShift.1.track.motion = .stopped ↔ s.track.motion = .stopped := by
  unfold State.finishShift
  split
  · rw [(beginSettling_keeps_track s).1]
  · next m => simp [TrackControl.enterHeld, m]
  · exact .rfl
  · exact .rfl

theorem ClaimInv.normalShift {s : State} (h : ClaimInv s) : ClaimInv s.normalShift.1 :=
  h.shifted (normalShift_links s) (finishShift_authority s.shift.1)
    (finishShift_keeps_admission s.shift.1).1 (finishShift_keeps_admission s.shift.1).2
    (finishShift_stopped s.shift.1)

theorem ClaimInv.completeSuspended {s : State} (h : ClaimInv s) : ClaimInv s.completeSuspended.1 :=
  h.shifted (completeSuspended_links s) rfl rfl rfl .rfl

/-! ## The two kinds of changes -/

theorem ClaimInv.cadenceEffect {s : State} (h : ClaimInv s) : ClaimInv s.cadenceEffect.1 := by
  unfold State.cadenceEffect
  split
  · obtain ⟨mode, running⟩ := beginStep_keeps_admission s
    exact h.congr (by simp) (by simp) (by simp) mode (running ▸ id)
      (by rw [(beginStep_keeps_track s).1])
  · exact h
  · exact h.mapTrack (fun t => { t with owed := true }) .rfl
  · exact h

theorem ClaimInv.confirmHead {s : State} (h : ClaimInv s) (id : Nat) :
    ClaimInv (s.confirmHead id).1 := by
  unfold State.confirmHead
  dsimp only
  split
  · obtain ⟨mode, running⟩ :=
      bindChoice_keeps ({ s.deleteRod id with exitQueue := s.exitQueue.tail } : State)
    refine h.congr (by simp) (by simp) (by simp) ?_ ?_ (by simp [State.enterAdvancing])
    · exact mode.trans (by simp)
    · intro some
      have kept := running.trans (b := (s.deleteRod id).admission.running) rfl
      rw [deleteRod_admission] at kept
      exact (congrArg Option.isSome kept).trans some
  all_goals exact h.congr (by simp) (by simp) (by simp) (by simp) (by simp) (by simp)

theorem ClaimInv.lineMove {s t : State} (move : LineMove s t) (m : MotionInv s) (h : ClaimInv s) :
    ClaimInv t := by
  have moving (notIdle : s.track.step ≠ .idle) : s.track.motion ≠ .stopped := fun stopped =>
    notIdle (m.stoppedRests stopped).2.1
  cases move with
  | break_ link => exact h.resetLink link
  | holdRises => exact h.mapTrack _ (holdLineRises_keeps s.track).2
  | holdFalls => exact h.mapTrack _ .rfl
  | doneLine level => exact h.mapTrack _ .rfl
  | shift advancing => exact h.normalShift
  | late suspended => exact h.completeSuspended
  | cadence due =>
    exact (h.mapTrack (fun t => { t with cadenceCount := 0 }) .rfl).cadenceEffect
  | settle due =>
    obtain ⟨mode, running⟩ := endSettling_keeps_admission s
    exact h.congr (by simp) (by simp) (by simp) mode (running ▸ id)
      (by rw [(endSettling_keeps_track s).1])
  | suspend due =>
    have step : s.track.step = .advancing 0 := by simpa [TrackControl.advanceLimitDue] using due
    have := moving (by simp [step])
    exact h.mapTrack _ (by simp [TrackControl.suspend, TrackControl.enterHeld, this])
  | withdrawStep due =>
    have step : s.track.step = .exitWait 0 := by simpa [TrackControl.exitWaitDue] using due
    have := moving (by simp [step])
    exact h.mapTrack _ (by simp [TrackControl.withdrawStep, TrackControl.enterHeld, this])
  | exposure due => exact h.congr (fun _ => rfl) rfl rfl rfl id .rfl
  | count =>
    refine h.congr (fun l => ?_) rfl rfl rfl id ?_
    · simp [State.countTick]
    · exact (trackTick_keeps s.track).2 ▸ .rfl

theorem ClaimInv.effect {link : Link} {s t : State} (e : Effect link s t) (h : ClaimInv s) :
    ClaimInv t := by
  cases e with
  | channel f class_ => exact h.congr (changeLink_class s link class_) rfl rfl rfl id .rfl
  | hang =>
    refine h.congr (by simp) (by simp) (by simp) ?_ (fun _ => ?_) (by simp)
    all_goals unfold State.hangRod; dsimp only; split <;> rfl
  | withdraw => exact h.congr (by simp) (by simp) (by simp) rfl id (by simp)
  | changeover format gap held opened running =>
    have holder : s.authority.claims.changeover = some link := holder_of_holds held
    exact h.setMode (by simp) (by simp [opened]) fun _ _ _ => ⟨by simp [holder], running⟩
  | cancelChangeover mode => exact h.setMode (by simp) (by simp [mode]) nofun
  | start stopped locked long => exact h.start stopped
  | hold moving => exact h.mapTrack _ (by simp)
  | resumeHeld held notSuspended =>
    exact h.mapTrack _ (by simp [TrackControl.resumeHeld, held])
  | resumeHolding holding => exact h.mapTrack _ (by simp [TrackControl.resumeHolding, holding])
  | stop moving rest => exact h.stopLine rest
  | confirmStep suspended => exact h.completeSuspended
  | abandonStep suspended =>
    refine h.congr (by simp) (by simp) (by simp) ?_ ?_ ?_
    all_goals unfold State.abandonSuspended; split <;> simp
  | confirm head => exact h.confirmHead _
  | climate taken => exact h.congr (by simp) (by simp) (by simp) (by simp) (by simp) (by simp)
  | claim permitted condition => exact h.grant permitted condition
  | release held => exact h.loseClaim _
  | purge held moving => exact h.beginDrain held moving
  | lockConfig unlocked =>
    exact h.dropHolder (k := .reconfigure) rfl rfl h.drainClosed h.changeoverHeld h.closedFree
      h.closedRests
  | interval v k unlocked =>
    cases k <;> exact h.congr (fun _ => rfl) rfl rfl rfl id .rfl
  | _ => exact h.congr (fun _ => rfl) rfl rfl rfl id .rfl

theorem claimInv_of_reset {s : State} (claims : s.authority.claims = ⟨none, none, none⟩)
    (drain : s.authority.drain = false) (mode : s.admission.mode = .open_) : ClaimInv s := by
  constructor <;> simp [claims, drain, mode]

/-- Settles O7: the motion table tells where STOPPED is entered and left, and every elementary change
keeps claims, drain and mode related. -/
theorem stepKeepsClaims : Obligations.StepKeepsClaims := by
  intro s t m h e
  exact (step_keeps (P := fun s => MotionInv s ∧ ClaimInv s)
    (fun _ _ move h => ⟨h.1.linkMove move, h.2.linkMove move⟩)
    (fun _ _ h => ⟨h.1.congr rfl rfl id, h.2.congr (fun _ => rfl) rfl rfl rfl id .rfl⟩)
    (fun _ _ _ own h => ⟨h.1.effect own, h.2.effect own⟩)
    (fun _ _ move h => ⟨h.1.lineMove move, h.2.lineMove move h.1⟩)
    (fun _ _ => ⟨motionInv_of_reset rfl rfl, claimInv_of_reset rfl rfl rfl⟩) ⟨m, h⟩ e).2

end Sys2Proof.Machine
end

section
/-! PROOFS. The zone channels (R93, R95, R96, R99): the invariant of one channel, what each change of a
channel does to it, and that every elementary change keeps the channels and their windows. -/

namespace Sys2Proof.Machine

/-! ## One channel -/

/-- How the fields of one channel are related (R91, R95, R96, R99). -/
structure ChannelInv (c : ZoneChannel) : Prop where
  offDisabled : c.state = .off ↔ c.enabled = false
  offCleared : c.state = .off →
    c.governing = none ∧ c.report = none ∧ c.changed = false ∧ c.staleness = 0
  noReportOk : c.report = none → c.reportClass = .ok
  awaitingNone : c.state = .awaiting → c.report = none
  reportingSome : c.state = .reporting → c.report.isSome = true
  staleness : c.staleness ≤ 255

/-- The invariant is that of each channel, and windows that are apart and within the track (R93). -/
theorem zoneInv_iff (s : State) :
    ZoneInv s ↔ (∀ z : Zone, ChannelInv s.zones.channels[z]) ∧
      (∀ (z w : Zone) (p : Nat), s.zones.channels[z].covers p = true →
        s.zones.channels[w].covers p = true → z = w) ∧
      ∀ (z : Zone) (p : Nat), s.zones.channels[z].covers p = true → p < s.track.length :=
  ⟨fun h => ⟨fun z => ⟨h.offDisabled z, h.offCleared z, h.noReportOk z, h.awaitingNone z,
      h.reportingSome z, h.staleness z⟩, h.apart, h.within⟩,
    fun ⟨h, apart, within⟩ => ⟨fun z => (h z).offDisabled, fun z => (h z).offCleared,
      fun z => (h z).noReportOk, fun z => (h z).awaitingNone, fun z => (h z).reportingSome,
      fun z => (h z).staleness, apart, within⟩⟩

section Channel
variable {c : ZoneChannel} (h : ChannelInv c)
include h

/-- A channel with its flag written, which an OFF channel has clear. -/
theorem ChannelInv.setChanged (flag : Bool) (on : flag = true → c.enabled = true) :
    ChannelInv { c with changed := flag } := by
  refine ⟨h.offDisabled, fun off => ?_, h.noReportOk, h.awaitingNone, h.reportingSome, h.staleness⟩
  obtain ⟨governing, report, _, staleness⟩ := h.offCleared off
  refine ⟨governing, report, ?_, staleness⟩
  refine Bool.eq_false_iff.2 fun set => ?_
  have disabled : c.enabled = false := h.offDisabled.1 off
  rw [on set] at disabled
  cases disabled

/-- A governing format that changes makes an enabled zone AWAITING (R99). -/
theorem ChannelInv.switch (enabled : c.enabled = true) (governing : Option Nat) :
    ChannelInv (c.switch governing) := by
  unfold ZoneChannel.switch
  split
  · exact h
  · refine ⟨?_, nofun, fun _ => rfl, fun _ => rfl, nofun, h.staleness⟩
    exact ⟨nofun, fun disabled => by cases enabled.symm.trans disabled⟩

/-- A report taken makes an enabled zone REPORTING (R105). -/
theorem ChannelInv.accept (on : c.state ≠ .off) (r : Report) (k : ReportClass) :
    ChannelInv (c.accept r k) :=
  ⟨⟨nofun, fun disabled => absurd (h.offDisabled.2 disabled) on⟩, nofun, nofun, nofun,
    fun _ => rfl, Nat.zero_le _⟩

theorem ChannelInv.countStale : ChannelInv c.countStale := by
  unfold ZoneChannel.countStale
  split
  · exact h
  · next on =>
    exact ⟨h.offDisabled, fun off => absurd off on, h.noReportOk, h.awaitingNone, h.reportingSome,
      Nat.min_le_left 255 _⟩

/-- Staleness advances, and a zone that is not OFF may become STALE (R108, R109). -/
theorem ChannelInv.advanceStale (limit : Nat) : ChannelInv (c.advanceStale limit) := by
  have counted := h.countStale
  unfold ZoneChannel.advanceStale
  split
  · next grows =>
    have on : c.countStale.state ≠ .off := fun off => by
      unfold ZoneChannel.countStale at off
      unfold ZoneChannel.growsStale at grows
      split at off
      · next e => rw [e] at grows; cases grows
      · next e => exact e off
    exact ⟨⟨nofun, fun disabled => absurd (counted.offDisabled.2 disabled) on⟩, nofun,
      counted.noReportOk, nofun, nofun, counted.staleness⟩
  · exact counted

/-- The effects of R95: a window that is enabled anew waits for a report, one that moves keeps its
state, one that is disabled is OFF and cleared. -/
theorem ChannelInv.setWindow (base limit : Nat) (governing : Option Nat) :
    ChannelInv (c.setWindow base limit governing) := by
  unfold ZoneChannel.setWindow
  split
  · next valid =>
    split
    · next enabled =>
      refine ⟨?_, h.offCleared, h.noReportOk, h.awaitingNone, h.reportingSome, h.staleness⟩
      have on : c.state ≠ .off := fun off => by
        rw [h.offDisabled.1 off] at enabled; cases enabled
      simp [on, ZoneChannel.enabled, valid]
    · refine ⟨?_, nofun, fun _ => rfl, fun _ => rfl, nofun, Nat.zero_le _⟩
      simp [ZoneChannel.enabled, valid]
  · next invalid =>
    split
    · refine ⟨?_, fun _ => ⟨rfl, rfl, rfl, rfl⟩, fun _ => rfl, nofun, nofun, Nat.zero_le _⟩
      simp only [ZoneChannel.enabled, invalid, decide_false]
    · next disabled =>
      refine ⟨?_, h.offCleared, h.noReportOk, h.awaitingNone, h.reportingSome, h.staleness⟩
      have off : c.state = .off := h.offDisabled.2 (Bool.eq_false_iff.2 disabled)
      simp only [off, ZoneChannel.enabled, invalid, decide_false]

end Channel

theorem channelInv_reset (boundLink : Option Link) :
    ChannelInv { ZoneChannel.reset with boundLink := boundLink } :=
  ⟨⟨fun _ => rfl, fun _ => rfl⟩, fun _ => ⟨rfl, rfl, rfl, rfl⟩, fun _ => rfl, nofun, nofun,
    Nat.zero_le _⟩

/-! ## A channel keeps its window -/

/-- The window of a channel, on which coverage turns (R93). -/
abbrev sameWindow (c d : ZoneChannel) : Prop := c.base = d.base ∧ c.limit = d.limit

theorem covers_congr {c d : ZoneChannel} (w : sameWindow c d) (p : Nat) : c.covers p = d.covers p := by
  unfold ZoneChannel.covers; rw [w.1, w.2]

theorem switch_window (c : ZoneChannel) (governing : Option Nat) :
    sameWindow (c.switch governing) c := by
  unfold ZoneChannel.switch; split <;> exact ⟨rfl, rfl⟩

theorem advanceStale_window (limit : Nat) (c : ZoneChannel) : sameWindow (c.advanceStale limit) c := by
  unfold ZoneChannel.advanceStale ZoneChannel.countStale
  split <;> split <;> exact ⟨rfl, rfl⟩

theorem covers_enabled {c : ZoneChannel} {p : Nat} (h : c.covers p = true) : c.enabled = true := by
  simp only [ZoneChannel.covers, ZoneChannel.enabled, Bool.and_eq_true, decide_eq_true_eq] at h ⊢
  omega

theorem setWindow_window (c : ZoneChannel) (base limit : Nat) (governing : Option Nat) :
    (c.setWindow base limit governing).base = base ∧
      (c.setWindow base limit governing).limit = limit := by
  unfold ZoneChannel.setWindow
  split <;> split <;> exact ⟨rfl, rfl⟩

/-! ## The changes of the channels -/

/-- An entry of the channels after a write to one of them. -/
theorem getElem_set_channel (channels : Vector ZoneChannel 8) (z w : Zone) (c : ZoneChannel) :
    (channels.set z c)[w] = if z = w then c else channels[w] := by
  by_cases e : z = w
  · subst e; simp
  · have : z.val ≠ w.val := fun q => e (Fin.ext q)
    simp [this, e]

/-- Channels that keep their windows, on a track of the same length. -/
theorem ZoneInv.keepWindows {s t : State} (h : ZoneInv s) (length : t.track.length = s.track.length)
    (channel : ∀ z : Zone, ChannelInv t.zones.channels[z] ∧
      sameWindow t.zones.channels[z] s.zones.channels[z]) : ZoneInv t := by
  have covers (z : Zone) (p : Nat) := covers_congr (channel z).2 p
  refine (zoneInv_iff t).2 ⟨fun z => (channel z).1, fun z w p => ?_, fun z p => ?_⟩
  · rw [covers, covers]; exact h.apart z w p
  · rw [covers, length]; exact h.within z p

theorem ZoneInv.channel {s : State} (h : ZoneInv s) (z : Zone) : ChannelInv s.zones.channels[z] :=
  ((zoneInv_iff s).1 h).1 z

theorem ZoneInv.congr {s t : State} (h : ZoneInv s)
    (channels : t.zones.channels = s.zones.channels) (length : t.track.length = s.track.length) :
    ZoneInv t :=
  h.keepWindows length fun z => by rw [channels]; exact ⟨h.channel z, rfl, rfl⟩

/-- The channels changed one by one. -/
theorem ZoneInv.mapChannels {s : State} (h : ZoneInv s) (f : Zone → ZoneChannel → ZoneChannel)
    (own : ∀ z, ChannelInv (f z s.zones.channels[z]) ∧
      sameWindow (f z s.zones.channels[z]) s.zones.channels[z]) : ZoneInv (s.mapChannels f) :=
  h.keepWindows rfl fun z => by simpa using own z

theorem ZoneInv.changeChannel {s : State} (h : ZoneInv s) (z : Zone) {f : ZoneChannel → ZoneChannel}
    (own : ChannelInv (f s.zones.channels[z]))
    (window : sameWindow (f s.zones.channels[z]) s.zones.channels[z]) :
    ZoneInv (s.changeChannel z f) :=
  h.keepWindows rfl fun w => by
    rw [changeChannel_zones, getElem_set_channel]
    split
    · next e => subst e; exact ⟨own, window⟩
    · exact ⟨h.channel w, rfl, rfl⟩

/-- A recomputation reaches the enabled zones alone (R98, R99). -/
theorem ZoneInv.switchEnabled {c : ZoneChannel} (h : ChannelInv c) (governing : Option Nat) :
    ChannelInv (if c.enabled then c.switch governing else c) ∧
      sameWindow (if c.enabled then c.switch governing else c) c := by
  split
  · next enabled => exact ⟨h.switch enabled governing, switch_window c governing⟩
  · exact ⟨h, rfl, rfl⟩

theorem ZoneInv.recomputeZones {s : State} (h : ZoneInv s) : ZoneInv s.recomputeZones :=
  h.mapChannels _ fun z => ZoneInv.switchEnabled (h.channel z) _

theorem ZoneInv.flagGoverned {s : State} (h : ZoneInv s) (format : Nat) :
    ZoneInv (s.flagGoverned format) := by
  refine h.mapChannels _ fun z => ?_
  split
  · next governed => exact ⟨(h.channel z).setChanged true fun _ => governed.1, rfl, rfl⟩
  · exact ⟨h.channel z, rfl, rfl⟩

/-- A new window is within the track and apart from those of the other zones (R93, R94). -/
theorem ZoneInv.setWindow {s : State} (h : ZoneInv s) {z : Zone} {base limit : Nat}
    (within : base ≤ limit → limit + 1 < s.track.length)
    (apart : base ≤ limit → s.windowTaken z base limit = false) (governing : Option Nat) :
    ZoneInv (s.changeChannel z fun c => c.setWindow base limit governing) := by
  have enters {p : Nat}
      (covers : (s.zones.channels[z].setWindow base limit governing).covers p = true) :
      base ≤ p ∧ p ≤ limit := by
    have window := setWindow_window s.zones.channels[z] base limit governing
    rwa [ZoneChannel.covers, window.1, window.2, Bool.and_eq_true, decide_eq_true_eq,
      decide_eq_true_eq] at covers
  have other {w : Zone} {p : Nat} (inside : base ≤ p ∧ p ≤ limit)
      (covers : s.zones.channels[w].covers p = true) : w = z := by
    by_contra ne
    have free := apart (by omega)
    unfold State.windowTaken at free
    have free := List.any_eq_false.1 free w (List.mem_finRange w)
    refine free ?_
    have enabled := covers_enabled covers
    simp only [ZoneChannel.covers, Bool.and_eq_true, decide_eq_true_eq] at covers
    simp only [Bool.and_eq_true, decide_eq_true_eq, windowsMeet]
    exact ⟨⟨ne, enabled⟩, by omega, by omega⟩
  refine (zoneInv_iff _).2 ⟨fun w => ?_, fun v w p => ?_, fun w p => ?_⟩
  all_goals simp only [changeChannel_zones, changeChannel_track, getElem_set_channel]
  · split
    · exact (h.channel z).setWindow base limit governing
    · exact h.channel w
  · intro first second
    split at first <;> split at second
    · next e f => exact e.symm.trans f
    · next e f => exact absurd (other (enters first) second).symm f
    · next e f => exact absurd (other (enters second) first).symm e
    · exact h.apart v w p first second
  · intro covers
    split at covers
    · have inside := enters covers
      have := within (by omega)
      omega
    · exact h.within w p covers

/-- A new track length lies beyond every enabled window (R158). -/
theorem ZoneInv.setLength {s : State} (h : ZoneInv s) {length : Nat}
    (within : s.windowBeyond length = false) :
    ZoneInv (s.mapTrack fun t => { t with slots := List.replicate length none }) := by
  refine (zoneInv_iff _).2 ⟨h.channel, h.apart, fun z p covers => ?_⟩
  have covers : s.zones.channels[z].covers p = true := covers
  have beyond := List.any_eq_false.1 within z (List.mem_finRange z)
  rw [covers_enabled covers, Bool.true_and, decide_eq_true_eq] at beyond
  simp only [ZoneChannel.covers, Bool.and_eq_true, decide_eq_true_eq] at covers
  simp only [mapTrack_track, TrackControl.length, List.length_replicate]
  omega

/-! ## The shift (R33, R98) -/

/-- The channels after a shift are those before it, recomputed. -/
theorem ZoneInv.shifted {s t : State} (h : ZoneInv s) (zones : t.zones = s.shift.1.zones)
    (length : t.track.length = s.track.length) : ZoneInv t := by
  refine h.keepWindows length fun z => ?_
  rw [zones, shift_zones]
  simpa using ZoneInv.switchEnabled (h.channel z) _

/-! ## The two kinds of changes -/

theorem ZoneInv.linkMove {s t : State} (move : LinkMove s t) (h : ZoneInv s) : ZoneInv t := by
  cases move with
  | channel link f class_ => exact h.congr rfl rfl
  | event c =>
    refine h.congr (by simp) ?_
    rw [route_track]
    split <;> simp

theorem ZoneInv.lineMove {s t : State} (move : LineMove s t) (h : ZoneInv s) : ZoneInv t := by
  cases move with
  | break_ link => exact h.congr (by simp [State.resetLink]) (by simp [State.resetLink])
  | holdRises => exact h.congr rfl (holdLineRises_keeps s.track).1
  | shift advancing =>
    exact h.shifted (finishShift_zones s.shift.1)
      ((finishShift_length s.shift.1).trans (shift_length s))
  | late suspended => exact h.shifted rfl (shift_length s)
  | cadence due =>
    refine h.congr (by simp) ?_
    unfold State.cadenceEffect
    split
    · exact (beginStep_keeps_track _).2
    all_goals rfl
  | settle due => exact h.congr (by simp) (endSettling_keeps_track s).2
  | exposure due =>
    exact (h.congr (t := { s with
        exposure := { s.exposure with counter := 0, tick := s.exposure.tick + 1 } }.mapRods
          fun rods => rods.map s.exposeRod) rfl rfl).mapChannels _ fun z =>
      ⟨(h.channel z).advanceStale _, advanceStale_window _ _⟩
  | count => exact h.congr rfl (trackTick_keeps s.track).1
  | _ => exact h.congr rfl rfl

theorem ZoneInv.effect {link : Link} {s t : State} (e : Effect link s t) (h : ZoneInv s) :
    ZoneInv t := by
  cases e with
  | hang =>
    unfold State.hangRod
    dsimp only
    split
    · refine ZoneInv.recomputeZones ?_
      exact h.congr rfl rfl
    · exact h.congr rfl rfl
  | withdraw => exact h.congr (by simp) (by simp)
  | start =>
    refine h.congr rfl ?_
    change s.track.start.length = s.track.length
    unfold TrackControl.start
    dsimp only
    split <;> simp [TrackControl.length]
  | hold moving => exact h.congr rfl (by simp)
  | stop moving rest =>
    refine h.congr (by simp) ?_
    unfold State.stopLine State.checkDrain
    split <;> rfl
  | confirmStep suspended => exact h.shifted rfl (shift_length s)
  | abandonStep suspended =>
    refine h.congr (by simp) ?_
    unfold State.abandonSuspended
    split <;> rfl
  | confirm head =>
    refine h.congr (by simp) ?_
    unfold State.confirmHead
    dsimp only
    split <;> simp [State.enterAdvancing, TrackControl.length]
  | setpoint z => exact h.changeChannel z ((h.channel z).setChanged false nofun) ⟨rfl, rfl⟩
  | @climate z r taken =>
    have on : s.zones.channels[z].state ≠ .off := fun off => by
      unfold State.climateRefusal at taken
      rw [if_pos off] at taken
      split at taken <;> cases taken
    have offered : ZoneInv (s.offerCapture z r) := h.congr (by simp) (by simp)
    refine offered.changeChannel z ?_ ⟨rfl, rfl⟩
    simp only [offerCapture_zones]
    exact (h.channel z).accept on r _
  | trim i z temperature humidity format =>
    exact (h.congr (t := s.trimSetpoint i z temperature humidity) rfl rfl).flagGoverned format
  | claim permitted condition => exact h.congr (by simp) (by simp)
  | release held => exact h.congr (by simp) (by simp)
  | purge held moving =>
    refine h.congr (by simp) ?_
    unfold State.beginDrain State.checkDrain
    dsimp only
    split
    · split <;> rfl
    · rfl
  | trackLength unlocked range within => exact h.setLength within
  | window unlocked within apart => exact (h.setWindow within apart _).recomputeZones
  | @format i entry unlocked unused =>
    exact (h.congr (t := s.mapAuthority fun a => { a with formats := a.formats.set i entry })
      rfl rfl).flagGoverned _
  | interval v k unlocked => cases k <;> exact h.congr rfl rfl
  | _ => exact h.congr rfl rfl

theorem zoneInv_of_reset {s : State} (bound : Zone → Option Link)
    (channels : s.zones.channels =
      Vector.ofFn fun z : Zone => { ZoneChannel.reset with boundLink := bound z }) : ZoneInv s := by
  have channel (z : Zone) :
      s.zones.channels[z] = { ZoneChannel.reset with boundLink := bound z } := by
    rw [channels]; simp
  have uncovered (z : Zone) (p : Nat) : s.zones.channels[z].covers p ≠ true := by
    rw [channel]
    intro covers
    cases covers_enabled covers
  exact (zoneInv_iff s).2 ⟨fun z => channel z ▸ channelInv_reset _,
    fun z w p covers => absurd covers (uncovered z p),
    fun z p covers => absurd covers (uncovered z p)⟩

/-- Settles O8: windows change behind the checks of R94 and R158 alone, and every change of a channel
keeps the invariant of the channel. -/
theorem stepKeepsZones : Obligations.StepKeepsZones := by
  intro s t h e
  exact step_keeps (fun _ _ => ZoneInv.linkMove) (fun _ _ h => h.congr rfl rfl)
    (fun _ _ _ => ZoneInv.effect) (fun _ _ => ZoneInv.lineMove)
    (fun _ straps => zoneInv_of_reset (bindZone straps) rfl) h e

end Sys2Proof.Machine
end

section
/-! PROOFS. The rod table (R1, R5): one record for an ID with the grade of its marks, and records whose
dose, grade and marks never fall while they exist. -/

namespace Sys2Proof.Machine

open Relation (ReflTransGen)

/-! ## Marks and grades (R5) -/

/-- A mark put in joins the set and nothing else does. -/
theorem has_insert (m : Marks) (k j : Mark) : (m.insert k).has j = (m.has j || decide (j = k)) := by
  cases k <;> cases j <;> simp [Marks.insert, Marks.has]

/-- The grade of a set, by the highest grade that one of its marks requires. -/
theorem grade_eq (m : Marks) :
    m.grade =
      if m.lotHeld || m.chainFault then .barred
      else if m.majorExposure || m.unmonitored || m.offSchedule then .suspect
      else if m.minorExposure || m.lateShift then .noted
      else .clean := by
  obtain ⟨a, b, c, d, e, f, g⟩ := m
  revert a b c d e f g
  decide

/-- The grade of a set with a mark put in is raised to what the mark requires. -/
theorem grade_insert (m : Marks) (k : Mark) : (m.insert k).grade = m.grade.max k.grade := by
  rw [grade_eq, grade_eq]
  cases k <;> simp only [Marks.insert, Mark.grade, Bool.or_true, Bool.true_or, if_true] <;>
    split_ifs <;> rfl

theorem level_le_max (a b : Grade) : a.level ≤ (a.max b).level := by
  unfold Grade.max
  split <;> omega

/-! ## One record -/

/-- What every record of the table has (R1, R5, R119, R121). -/
structure RecordInv (r : RodRecord) : Prop where
  ids : 1 ≤ r.id ∧ r.id ≤ 65535
  grade : r.grade = r.marks.grade
  dose : r.dose ≤ 4194303
  offSchedule : r.offSchedule ≤ 255

/-- Dose and grade have not fallen, no mark has left, and lot and format are the same. -/
structure Grows (r r' : RodRecord) : Prop where
  dose : r.dose ≤ r'.dose
  grade : r.grade.level ≤ r'.grade.level
  marks : ∀ m : Mark, r.marks.has m = true → r'.marks.has m = true
  lot : r'.lot = r.lot
  format : r'.format = r.format

theorem Grows.refl (r : RodRecord) : Grows r r := ⟨Nat.le_refl _, Nat.le_refl _, fun _ => id, rfl, rfl⟩

theorem Grows.trans {a b c : RodRecord} (h : Grows a b) (k : Grows b c) : Grows a c :=
  ⟨h.dose.trans k.dose, h.grade.trans k.grade, fun m e => k.marks m (h.marks m e),
    k.lot.trans h.lot, k.format.trans h.format⟩

/-- A record that takes the place of another: it grows and keeps what every record has. -/
def Follows (r r' : RodRecord) : Prop := Grows r r' ∧ (RecordInv r → RecordInv r')

theorem Follows.refl (r : RodRecord) : Follows r r := ⟨.refl r, id⟩

theorem Follows.trans {a b c : RodRecord} (h : Follows a b) (k : Follows b c) : Follows a c :=
  ⟨h.1.trans k.1, fun i => k.2 (h.2 i)⟩

/-- A place written changes none of it. -/
theorem follows_place (r : RodRecord) (p : Place) : Follows r { r with place := p } :=
  ⟨⟨Nat.le_refl _, Nat.le_refl _, fun _ => id, rfl, rfl⟩,
    fun ⟨ids, grade, dose, off⟩ => ⟨ids, grade, dose, off⟩⟩

theorem follows_addMark (m : Mark) (r : RodRecord) : Follows r (r.addMark m) := by
  unfold RodRecord.addMark
  split
  · exact .refl r
  · refine ⟨⟨Nat.le_refl _, level_le_max _ _, fun k e => ?_, rfl, rfl⟩,
      fun h => ⟨h.ids, ?_, h.dose, h.offSchedule⟩⟩
    · simp only [has_insert, e, Bool.true_or]
    · simp only [h.grade, grade_insert]

theorem follows_applyResolution (c : ChainResult) (r : RodRecord) :
    Follows r (r.applyResolution c) := by
  rcases applyResolution_cases c r with h | ⟨m, h⟩ <;> rw [h]
  · exact .refl r
  · exact follows_addMark m r

theorem follows_exitWith (c : ChainResult) (window : FormatEntry) (exitStep : Word32) (r : RodRecord) :
    Follows r (r.exitWith c window exitStep) :=
  (follows_applyResolution c r).trans (follows_place _ _)

theorem follows_moveUp (r : RodRecord) : Follows r r.moveUp := by
  rw [moveUp_eq]; exact follows_place r _

theorem follows_quarantined (r : RodRecord) : Follows r (RodRecord.revise.quarantined r) := by
  unfold RodRecord.revise.quarantined
  split
  · exact follows_place r _
  all_goals exact .refl r

theorem follows_revise (c : ChainResult) (r : RodRecord) : Follows r (r.revise c) := by
  cases c with
  | clear => exact .refl r
  | _ => exact (follows_applyResolution _ r).trans (follows_quarantined _)

/-- A dose credited rises and saturates (R119). -/
theorem follows_creditDose (rate : Nat) (r : RodRecord) : RecordInv r → Grows r (r.creditDose rate) ∧
    RecordInv (r.creditDose rate) := by
  intro h
  have maximum : Config.doseMax = 4194303 := rfl
  refine ⟨⟨?_, Nat.le_refl _, fun _ => id, rfl, rfl⟩, h.ids, h.grade, ?_, h.offSchedule⟩
  · have := h.dose
    simp only [RodRecord.creditDose]
    omega
  · simp only [RodRecord.creditDose]
    omega

theorem follows_markClass (k : ReportClass) (r : RodRecord) : Follows r (r.markClass k) := by
  unfold RodRecord.markClass
  split
  · exact .refl r
  · exact follows_addMark _ r

theorem follows_countOffSchedule (governing : Option Nat) (tolerance : Nat) (r : RodRecord) :
    Follows r (r.countOffSchedule governing tolerance) := by
  have counted : Follows r { r with offSchedule := min Config.byteMax (r.offSchedule + 1) } :=
    ⟨⟨Nat.le_refl _, Nat.le_refl _, fun _ => id, rfl, rfl⟩, fun h =>
      ⟨h.ids, h.grade, h.dose, Nat.min_le_left 255 _⟩⟩
  unfold RodRecord.countOffSchedule
  split
  · exact .refl r
  · split
    · exact .refl r
    · dsimp only
      split
      · exact counted.trans (follows_addMark _ _)
      · exact counted

/-! ## The identity of a record -/

@[simp] theorem revise_id (c : ChainResult) (r : RodRecord) : (r.revise c).id = r.id := by
  have quarantined (r : RodRecord) : (RodRecord.revise.quarantined r).id = r.id := by
    unfold RodRecord.revise.quarantined; split <;> rfl
  cases c with
  | clear => rfl
  | _ => exact (quarantined _).trans (applyResolution_id _ r)

@[simp] theorem countOffSchedule_id (governing : Option Nat) (tolerance : Nat) (r : RodRecord) :
    (r.countOffSchedule governing tolerance).id = r.id := by
  unfold RodRecord.countOffSchedule
  split
  · rfl
  · split
    · rfl
    · dsimp only
      split
      · exact addMark_id _ _
      · rfl

@[simp] theorem markClass_id (k : ReportClass) (r : RodRecord) : (r.markClass k).id = r.id := by
  unfold RodRecord.markClass
  split
  · rfl
  · exact addMark_id _ r

@[simp] theorem expose_id (c : ZoneChannel) (tolerance : Nat) (r : RodRecord) :
    (r.expose c tolerance).id = r.id := by
  unfold RodRecord.expose
  split
  · rfl
  · rfl
  · exact addMark_id _ r
  · rw [countOffSchedule_id, markClass_id]; rfl

@[simp] theorem exposeRod_id (s : State) (r : RodRecord) : (s.exposeRod r).id = r.id := by
  unfold State.exposeRod
  split
  · split
    · rfl
    · exact expose_id _ _ r
  all_goals rfl

/-! ## The table -/

/-- The rod table of the invariant. -/
def RodTable (rods : List RodRecord) : Prop := RodsSorted rods ∧ ∀ r ∈ rods, RecordInv r

theorem rodInv_iff (s : State) : RodInv s ↔ RodTable s.registry.rods :=
  ⟨fun h => ⟨h.sorted, fun r m => ⟨h.ids r m, h.grade r m, h.dose r m, h.offSchedule r m⟩⟩,
    fun ⟨sorted, all⟩ => ⟨sorted, fun r m => (all r m).ids, fun r m => (all r m).grade,
      fun r m => (all r m).dose, fun r m => (all r m).offSchedule⟩⟩

/-- The lot and the format of every record, in the order of the table. -/
def lotsOf (rods : List RodRecord) : List (Fin 32 × Nat) := rods.map fun r => (r.lot, r.format)

/-- Every record stays, grown, and none comes. -/
structure RodsGrow (rods rods' : List RodRecord) : Prop where
  record : ∀ id, Option.Rel Grows (findRod rods id) (findRod rods' id)
  lots : lotsOf rods' = lotsOf rods

/-- A record that is there before and after has grown. -/
def RodsKept (rods rods' : List RodRecord) : Prop :=
  ∀ id r r', findRod rods id = some r → findRod rods' id = some r' → Grows r r'

/-- A table that leads to another: the table stays one, and every record stays, grown. -/
def RodsLead (rods rods' : List RodRecord) : Prop :=
  RodTable rods → RodTable rods' ∧ RodsGrow rods rods'

theorem RodsLead.refl (rods : List RodRecord) : RodsLead rods rods :=
  fun h => ⟨h, fun id => by
    cases findRod rods id with
    | none => exact .none
    | some r => exact .some (.refl r), rfl⟩

theorem RodsLead.of_eq {rods rods' : List RodRecord} (e : rods' = rods) : RodsLead rods rods' :=
  e ▸ .refl rods

theorem RodsLead.trans {a b c : List RodRecord} (h : RodsLead a b) (k : RodsLead b c) :
    RodsLead a c := by
  intro table
  obtain ⟨tableB, growB⟩ := h table
  obtain ⟨tableC, growC⟩ := k tableB
  refine ⟨tableC, fun id => ?_, growC.lots.trans growB.lots⟩
  have first := growB.record id
  have second := growC.record id
  generalize findRod a id = x at first
  generalize findRod b id = y at first second
  generalize findRod c id = z at second
  cases first with
  | none => exact second
  | some gb =>
    cases second with
    | some gc => exact .some (gb.trans gc)

theorem RodsGrow.kept {rods rods' : List RodRecord} (h : RodsGrow rods rods') :
    RodsKept rods rods' := by
  intro id r r' e e'
  have grown := h.record id
  rw [e, e'] at grown
  cases grown with
  | some g => exact g

/-- Every record changed by itself, where what becomes of it is a record that follows it. -/
theorem RodsLead.map {rods : List RodRecord} {f : RodRecord → RodRecord} (id : ∀ r, (f r).id = r.id)
    (own : RodTable rods → ∀ r ∈ rods, Grows r (f r) ∧ RecordInv (f r)) :
    RodsLead rods (rods.map f) := by
  intro table
  have own := own table
  refine ⟨⟨table.1.map id, fun r m => ?_⟩, fun j => ?_, ?_⟩
  · obtain ⟨x, mx, rfl⟩ := List.mem_map.1 m
    exact (own x mx).2
  · rw [findRod_map id]
    cases e : findRod rods j with
    | none => exact .none
    | some r => exact .some (own r (findRod_mem e)).1
  · unfold lotsOf
    rw [List.map_map]
    exact List.map_congr_left fun r m => Prod.ext (own r m).1.lot (own r m).1.format

/-- The same where every change follows. -/
theorem RodsLead.mapFollows {rods : List RodRecord} {f : RodRecord → RodRecord}
    (id : ∀ r, (f r).id = r.id) (own : ∀ r, Follows r (f r)) : RodsLead rods (rods.map f) :=
  .map id fun table r m => ⟨(own r).1, (own r).2 (table.2 r m)⟩

theorem RodsLead.update {rods : List RodRecord} {f : RodRecord → RodRecord} (id : Nat)
    (same : ∀ r, (f r).id = r.id) (own : ∀ r, Follows r (f r)) :
    RodsLead rods (updateRod id f rods) := by
  refine .mapFollows (fun r => ?_) fun r => ?_
  · split
    · exact same r
    · rfl
  · split
    · exact own r
    · exact .refl r

/-! ## The operations of a step -/

theorem bindChoice_rods (s : State) : RodsLead s.registry.rods s.bindChoice.1.registry.rods := by
  unfold State.bindChoice
  split
  · exact .update _ (fun _ => rfl) fun r => follows_place r _
  · exact .refl _

theorem beginStep_rods (s : State) : RodsLead s.registry.rods s.beginStep.1.registry.rods := by
  unfold State.beginStep
  split
  · exact .refl _
  · exact bindChoice_rods s

theorem endSettling_rods (s : State) : RodsLead s.registry.rods s.endSettling.1.registry.rods := by
  unfold State.endSettling
  split
  · exact beginStep_rods (s.mapTrack fun t => { t with owed := false })
  · exact .refl _

theorem finishShift_rods (s : State) : RodsLead s.registry.rods s.finishShift.1.registry.rods := by
  unfold State.finishShift State.beginSettling
  split
  · split
    · exact endSettling_rods s
    · exact .refl _
  all_goals exact .refl _

/-- The rod that the shift takes off the track is the one of its ID, and grows by its resolution. -/
theorem follows_takenRod {s : State} (table : RodTable s.registry.rods) {r : RodRecord}
    (m : r ∈ s.registry.rods) : Follows r (s.takenRod r) := by
  unfold State.takenRod
  split
  · exact .refl r
  · next out e =>
    split
    · next same =>
      obtain ⟨id, _, found⟩ := Option.bind_eq_some_iff.1 e
      have : out = r := table.1.unique (findRod_mem found) m same.symm
      subst this
      exact follows_exitWith _ _ _ out
    · exact .refl r

theorem shift_rods_lead (s : State) : RodsLead s.registry.rods s.shift.1.registry.rods := by
  rw [shift_rods]
  refine .map (shiftedRod_id s) fun table r m => ?_
  have moved := (follows_takenRod table m).trans (follows_moveUp _)
  have shifted : Follows r (s.shiftedRod r) := by
    unfold State.shiftedRod
    dsimp only
    split
    · split
      · exact moved.trans (follows_place _ _)
      · exact moved
    · exact moved
    · exact moved
  exact ⟨shifted.1, shifted.2 (table.2 r m)⟩

theorem markLate_rods (s : State) : RodsLead s.registry.rods s.markLate.registry.rods := by
  refine .mapFollows (fun r => ?_) fun r => ?_
  · split
    · exact addMark_id _ r
    all_goals rfl
  · split
    · exact follows_addMark _ r
    all_goals exact .refl r

theorem completeSuspended_rods (s : State) :
    RodsLead s.registry.rods s.completeSuspended.1.registry.rods :=
  (shift_rods_lead s).trans (markLate_rods s.shift.1)

theorem normalShift_rods (s : State) : RodsLead s.registry.rods s.normalShift.1.registry.rods :=
  (shift_rods_lead s).trans (finishShift_rods s.shift.1)

theorem abandonSuspended_rods (s : State) :
    RodsLead s.registry.rods s.abandonSuspended.registry.rods := by
  unfold State.abandonSuspended
  split
  · exact .update _ (fun _ => rfl) fun r => follows_place r _
  all_goals exact .refl _

theorem cadenceEffect_rods (s : State) : RodsLead s.registry.rods s.cadenceEffect.1.registry.rods := by
  unfold State.cadenceEffect
  split
  · exact beginStep_rods s
  all_goals exact .refl _

/-- An exposure tick credits, counts and marks (R117 to R123). -/
theorem exposed_rods (s : State) : RodsLead s.registry.rods s.exposed.registry.rods := by
  refine .map (exposeRod_id s) fun table r m => ?_
  have h := table.2 r m
  have same : Grows r r ∧ RecordInv r := ⟨.refl r, h⟩
  have exposed (c : ZoneChannel) (tolerance : Nat) :
      Grows r (r.expose c tolerance) ∧ RecordInv (r.expose c tolerance) := by
    unfold RodRecord.expose
    split
    · exact same
    · exact same
    · exact ⟨(follows_addMark _ r).1, (follows_addMark _ r).2 h⟩
    · obtain ⟨credited, inv⟩ := follows_creditDose (c.report.elim 0 (·.doseRate)) r h
      have rest := (follows_markClass c.reportClass
        (r.creditDose (c.report.elim 0 (·.doseRate)))).trans
          (follows_countOffSchedule c.governing tolerance _)
      exact ⟨credited.trans rest.1, rest.2 inv⟩
  unfold State.exposeRod
  split
  · split
    · exact same
    · exact exposed _ _
  all_goals exact same

/-! ## The kinds of changes -/

theorem linkMove_registry {s t : State} (move : LinkMove s t) : t.registry = s.registry := by
  cases move with
  | channel link f class_ => rfl
  | event c => exact route_registry c s

theorem linkMoves_registry {s t : State} (moves : LinkMoves s t) : t.registry = s.registry := by
  induction moves with
  | refl => rfl
  | tail _ move ih => exact (linkMove_registry move).trans ih

theorem lineMove_rods {s t : State} (move : LineMove s t) :
    RodsLead s.registry.rods t.registry.rods := by
  cases move with
  | break_ link => exact .of_eq (by simp [State.resetLink])
  | shift advancing => exact normalShift_rods s
  | late suspended => exact completeSuspended_rods s
  | cadence due => exact cadenceEffect_rods (s.mapTrack _)
  | settle due => exact endSettling_rods s
  | exposure due => exact exposed_rods s
  | _ => exact .refl _

theorem lineMoves_rods {s t : State} (moves : LineMoves s t) :
    RodsLead s.registry.rods t.registry.rods := by
  induction moves with
  | refl => exact .refl _
  | tail _ move ih =>
    refine ih.trans ?_
    rcases move with move | move
    · exact .of_eq (congrArg Registry.rods (linkMove_registry move))
    · exact lineMove_rods move

/-- A deletion takes one record out and leaves the others. -/
theorem erase_rods {rods : List RodRecord} (id : Nat) (table : RodTable rods) :
    RodTable (eraseRod id rods) ∧ RodsKept rods (eraseRod id rods) := by
  refine ⟨⟨table.1.erase id, fun r m => table.2 r (List.mem_of_mem_filter m)⟩, fun j r r' e e' => ?_⟩
  rw [findRod_eraseRod] at e'
  split at e'
  · cases e'
  · rw [e] at e'; cases e'; exact .refl r

theorem deleteRod_rods (s : State) (id : Nat) (table : RodTable s.registry.rods) :
    RodTable (s.deleteRod id).registry.rods ∧
      RodsKept s.registry.rods (s.deleteRod id).registry.rods := by
  unfold State.deleteRod
  split
  · exact ⟨table, ((RodsLead.refl _) table).2.kept⟩
  · exact erase_rods id table

/-- A new record is CLEAN, and no record of its ID was there (R1, R69). -/
theorem insert_rods {rods : List RodRecord} {r : RodRecord} (table : RodTable rods)
    (new : RecordInv r) (fresh : findRod rods r.id = none) :
    RodTable (insertRod r rods) ∧ RodsKept rods (insertRod r rods) := by
  refine ⟨⟨table.1.insert r, fun x m => ?_⟩, fun j x x' e e' => ?_⟩
  · rcases mem_insertRod m with rfl | m
    · exact new
    · exact table.2 x m
  · rw [findRod_insertRod] at e'
    split at e'
    · next same => rw [same, fresh] at e; cases e
    · rw [e] at e'; cases e'; exact .refl x

theorem hangRod_rods (s : State) (id : Nat) (i : Fin 32) (format : Nat) :
    (s.hangRod id i format).registry.rods =
      insertRod (newRod id i format s.track.stepNumber) s.registry.rods := by
  unfold State.hangRod
  dsimp only
  split <;> rfl

/-- A CONFIRM deletes a record, and then a waiting step may bind a rod. -/
theorem confirmHead_rods (s : State) (id : Nat) :
    RodsLead (s.deleteRod id).registry.rods (s.confirmHead id).1.registry.rods := by
  unfold State.confirmHead
  dsimp only
  split
  · exact bindChoice_rods { s.deleteRod id with exitQueue := s.exitQueue.tail }
  all_goals exact .refl _

theorem effect_rods {link : Link} {s t : State} (e : Effect link s t)
    (table : RodTable s.registry.rods) :
    RodTable t.registry.rods ∧ RodsKept s.registry.rods t.registry.rods := by
  have leads {t : State} (lead : RodsLead s.registry.rods t.registry.rods) :
      RodTable t.registry.rods ∧ RodsKept s.registry.rods t.registry.rods :=
    ⟨(lead table).1, (lead table).2.kept⟩
  cases e with
  | hang positive small room fresh opened lot =>
    rw [hangRod_rods]
    exact insert_rods table ⟨⟨Nat.one_le_iff_ne_zero.2 positive, small⟩, rfl, Nat.zero_le _,
      Nat.zero_le _⟩ fresh
  | withdraw known staged => exact deleteRod_rods s _ table
  | stop moving rest => exact leads (.of_eq (by simp))
  | confirmStep suspended => exact leads (completeSuspended_rods s)
  | abandonStep suspended => exact leads (abandonSuspended_rods s)
  | take head known => exact leads (.update _ (revise_id _) (follows_revise _))
  | @confirm id rest head =>
    obtain ⟨deleted, kept⟩ := deleteRod_rods s id table
    obtain ⟨confirmed, grow⟩ := confirmHead_rods s id deleted
    refine ⟨confirmed, fun j r r' found found' => ?_⟩
    have after := grow.record j
    rw [found'] at after
    cases between : findRod (s.deleteRod id).registry.rods j with
    | none => rw [between] at after; cases after
    | some x =>
      rw [between] at after
      cases after with
      | some grown => exact (kept j r x found between).trans grown
  | climate taken => exact leads (.of_eq (by simp))
  | claim permitted condition => exact leads (.of_eq (by simp))
  | release held => exact leads (.of_eq (by simp))
  | purge held moving => exact leads (.of_eq (by simp))
  | interval v k unlocked => exact leads (.of_eq (by simp))
  | _ => exact leads (.refl _)

/-- The table that a device reset leaves holds no record. -/
theorem empty_rods (rods : List RodRecord) : RodTable [] ∧ RodsKept rods [] :=
  ⟨⟨List.Pairwise.nil, by simp⟩, fun _ _ _ _ found => by simp [findRod] at found⟩

/-- Settles O9: outside a device reset a record leaves only by a deletion and comes only by a HANG of a
new ID, and every other change of it follows it. -/
theorem stepKeepsRods : Obligations.StepKeepsRods := by
  intro s t h e
  rw [rodInv_iff] at h ⊢
  suffices RodTable t.registry.rods ∧ RodsKept s.registry.rods t.registry.rods by
    refine ⟨this.1, fun id r r' found found' => ?_⟩
    have grows := this.2 id r r' found found'
    exact ⟨grows.dose, grows.grade, grows.marks⟩
  unfold step at e
  split at e
  · cases e
    exact ⟨h, ((RodsLead.refl _) h).2.kept⟩
  · next c rest _ =>
    cases kind : lineCommand c with
    | false =>
      obtain ⟨u, v, link, before, own, after⟩ := exec_served kind e
      have beforeRods : u.registry = s.registry := linkMoves_registry before (s := { s with pending := rest })
      rw [← beforeRods] at h ⊢
      rw [linkMoves_registry after]
      exact effect_rods own h
    | true =>
      by_cases isReset : ∃ straps, c = .deviceReset straps
      · obtain ⟨straps, rfl⟩ := isReset
        cases e
        exact empty_rods s.registry.rods
      · have moves := line_moves kind (fun straps q => isReset ⟨straps, q⟩) e
        obtain ⟨table, grow⟩ := lineMoves_rods moves h
        exact ⟨table, grow.kept⟩

end Sys2Proof.Machine
end

section
/-! PROOFS. The places of the rods (R3, R21, R67, R129): every rod stays in exactly the collection that
its place names. -/

namespace Sys2Proof.Machine

/-! ## Where a rod is -/

/-- A place without the fields that are present only there. -/
inductive Spot where
  | staged
  | boarding
  | onTrack (position : Nat)
  | exited
  deriving DecidableEq

def Place.spot : Place → Spot
  | .staged => .staged
  | .boarding => .boarding
  | .onTrack p _ => .onTrack p
  | .exited _ _ _ => .exited

/-- Where the rod of an ID is, if there is one. -/
def State.spot (s : State) (id : Nat) : Option Spot := (s.rod id).map (·.place.spot)

/-- A rod that has not boarded. -/
abbrev RodRecord.waits (r : RodRecord) : Prop := r.place = .staged ∨ r.place = .boarding

/-- A rod with no dose, no mark and no count (R6). -/
abbrev RodRecord.isUntouched (r : RodRecord) : Prop := r.marks = {} ∧ r.dose = 0 ∧ r.offSchedule = 0

theorem spot_eq {s : State} {id : Nat} {x : Spot} :
    s.spot id = some x ↔ ∃ r, s.rod id = some r ∧ r.place.spot = x := Option.map_eq_some_iff

theorem spot_of_rod {s : State} {id : Nat} {r : RodRecord} (h : s.rod id = some r) :
    s.spot id = some r.place.spot := spot_eq.2 ⟨r, h, rfl⟩

theorem spot_staged (r : RodRecord) : r.place.spot = .staged ↔ r.place = .staged := by
  cases r.place <;> simp [Place.spot]

theorem spot_boarding (r : RodRecord) : r.place.spot = .boarding ↔ r.place = .boarding := by
  cases r.place <;> simp [Place.spot]

theorem spot_onTrack (r : RodRecord) (p : Nat) :
    r.place.spot = .onTrack p ↔ ∃ b, r.place = .onTrack p b := by
  cases r.place <;> simp [Place.spot]

theorem spot_exited (r : RodRecord) :
    r.place.spot = .exited ↔ ∃ b e d, r.place = .exited b e d := by
  cases r.place <;> simp [Place.spot]

theorem waits_iff (r : RodRecord) :
    r.waits ↔ r.place.spot = .staged ∨ r.place.spot = .boarding := by
  rw [spot_staged, spot_boarding]

/-! ## The invariant in three parts -/

/-- The collections hold the rods whose places name them, within the capacities. -/
structure Places (s : State) : Prop where
  staged : ∀ id, id ∈ s.admission.staging ↔ s.spot id = some .staged
  boarding : ∀ id, s.admission.boarding = .rod id ↔ s.spot id = some .boarding
  onTrack : ∀ id p, s.track.slots[p]? = some (some id) ↔ s.spot id = some (.onTrack p)
  exited : ∀ id, id ∈ s.exitQueue ↔ s.spot id = some .exited
  stagedOnce : s.admission.staging.Nodup
  exitedOnce : s.exitQueue.Nodup
  stagingRoom : s.admission.rodsHeld ≤ 4
  exitRoom : s.exitQueue.length ≤ 8
  untouched : ∀ id r, s.rod id = some r → r.waits → r.isUntouched

/-- The sub-states in which the boarding slot is bound (R31). -/
abbrev TrackControl.binds (t : TrackControl) : Prop := t.advanceLine = true ∨ t.step = .suspended

/-- The boarding slot is bound exactly then. -/
abbrev Bound (s : State) : Prop := s.admission.boarding ≠ .empty ↔ s.track.binds

/-- There is room for the rod that the step takes off the track (R34). -/
abbrev ExitRoomKept (s : State) : Prop :=
  s.track.binds → s.track.lastSlot.isSome = true → s.exitQueue.length < 8

theorem placeInv_iff (s : State) : PlaceInv s ↔ Places s ∧ Bound s ∧ ExitRoomKept s := by
  have staged (id : Nat) : (∃ r, s.rod id = some r ∧ r.place = .staged) ↔
      s.spot id = some .staged := by simp only [spot_eq, spot_staged]
  have boarding (id : Nat) : (∃ r, s.rod id = some r ∧ r.place = .boarding) ↔
      s.spot id = some .boarding := by simp only [spot_eq, spot_boarding]
  have onTrack (id p : Nat) : (∃ r b, s.rod id = some r ∧ r.place = .onTrack p b) ↔
      s.spot id = some (.onTrack p) := by simp only [spot_eq, spot_onTrack, exists_and_left]
  have exited (id : Nat) : (∃ r b e d, s.rod id = some r ∧ r.place = .exited b e d) ↔
      s.spot id = some .exited := by simp only [spot_eq, spot_exited, exists_and_left]
  constructor
  · intro h
    exact ⟨⟨fun id => (h.staged id).trans (staged id), fun id => (h.boarding id).trans (boarding id),
      fun id p => (h.onTrack id p).trans (onTrack id p), fun id => (h.exited id).trans (exited id),
      h.stagedOnce, h.exitedOnce, h.stagingRoom, h.exitRoom, h.untouched⟩, h.bound, h.exitRoomKept⟩
  · rintro ⟨h, bound, room⟩
    exact ⟨fun id => (h.staged id).trans (staged id).symm,
      fun id => (h.boarding id).trans (boarding id).symm,
      fun id p => (h.onTrack id p).trans (onTrack id p).symm,
      fun id => (h.exited id).trans (exited id).symm, h.stagedOnce, h.exitedOnce, h.stagingRoom,
      h.exitRoom, room, bound, h.untouched⟩

/-! ## What the parts look at -/

theorem spot_congr {s t : State} (rods : t.registry.rods = s.registry.rods) (id : Nat) :
    t.spot id = s.spot id := by
  unfold State.spot State.rod; rw [rods]

/-- Collections that stand, and rods that stay where they are. -/
theorem Places.congr {s t : State} (h : Places s) (spot : ∀ id, t.spot id = s.spot id)
    (staging : t.admission.staging = s.admission.staging)
    (boarding : t.admission.boarding = s.admission.boarding)
    (slots : t.track.slots = s.track.slots) (exitQueue : t.exitQueue = s.exitQueue)
    (untouched : ∀ id r, t.rod id = some r → r.waits → r.isUntouched) : Places t where
  staged id := by rw [staging, spot]; exact h.staged id
  boarding id := by rw [boarding, spot]; exact h.boarding id
  onTrack id p := by rw [slots, spot]; exact h.onTrack id p
  exited id := by rw [exitQueue, spot]; exact h.exited id
  stagedOnce := staging ▸ h.stagedOnce
  exitedOnce := exitQueue ▸ h.exitedOnce
  stagingRoom := by unfold Admission.rodsHeld; rw [boarding, staging]; exact h.stagingRoom
  exitRoom := exitQueue ▸ h.exitRoom
  untouched := untouched

/-- A change that touches neither rods nor collections. -/
theorem Places.same {s t : State} (h : Places s) (rods : t.registry.rods = s.registry.rods)
    (staging : t.admission.staging = s.admission.staging)
    (boarding : t.admission.boarding = s.admission.boarding)
    (slots : t.track.slots = s.track.slots) (exitQueue : t.exitQueue = s.exitQueue) : Places t := by
  refine h.congr (spot_congr rods) staging boarding slots exitQueue fun id r found => ?_
  unfold State.rod at found
  rw [rods] at found
  exact h.untouched id r found

/-- The same of the whole invariant, where the sub-state stays bound or unbound. -/
theorem PlaceInv.same {s t : State} (h : PlaceInv s) (rods : t.registry.rods = s.registry.rods)
    (staging : t.admission.staging = s.admission.staging)
    (boarding : t.admission.boarding = s.admission.boarding)
    (slots : t.track.slots = s.track.slots) (exitQueue : t.exitQueue = s.exitQueue)
    (binds : t.track.binds ↔ s.track.binds) : PlaceInv t := by
  rw [placeInv_iff] at h ⊢
  obtain ⟨places, bound, room⟩ := h
  refine ⟨places.same rods staging boarding slots exitQueue, ?_, ?_⟩
  · unfold Bound; rw [boarding, binds]; exact bound
  · unfold ExitRoomKept TrackControl.lastSlot; rw [slots, exitQueue, binds]; exact room

/-- A change of the track controller that keeps the slots. -/
theorem PlaceInv.mapTrack {s : State} (h : PlaceInv s) (f : TrackControl → TrackControl)
    (slots : (f s.track).slots = s.track.slots) (binds : (f s.track).binds ↔ s.track.binds) :
    PlaceInv (s.mapTrack f) := h.same rfl rfl rfl slots rfl binds

/-- Records that change without moving, while those that have not boarded stand. -/
theorem PlaceInv.mapRods {s t : State} (h : PlaceInv s) {f : RodRecord → RodRecord}
    (rod : ∀ id, t.rod id = (s.rod id).map f)
    (spot : ∀ r, (f r).place.spot = r.place.spot) (waits : ∀ r : RodRecord, r.waits → f r = r)
    (admission : t.admission = s.admission) (track : t.track = s.track)
    (exitQueue : t.exitQueue = s.exitQueue) : PlaceInv t := by
  rw [placeInv_iff] at h ⊢
  obtain ⟨places, bound, room⟩ := h
  refine ⟨places.congr (fun id => ?_) (by rw [admission]) (by rw [admission]) (by rw [track])
    exitQueue fun id r found wait => ?_, ?_, ?_⟩
  · unfold State.spot
    rw [rod, Option.map_map]
    cases s.rod id with
    | none => rfl
    | some r => exact congrArg some (spot r)
  · rw [rod, Option.map_eq_some_iff] at found
    obtain ⟨x, known, rfl⟩ := found
    rw [waits_iff, spot, ← waits_iff] at wait
    rw [waits x wait]
    exact places.untouched id x known wait
  · unfold Bound; rw [admission, track]; exact bound
  · unfold ExitRoomKept; rw [track, exitQueue]; exact room

/-! ## A rod comes and goes -/

/-- A new rod is at the tail of the staging queue (R70). -/
theorem Places.hang {s t : State} (h : Places s) {r : RodRecord} (staged : r.place = .staged)
    (untouched : r.isUntouched) (fresh : s.rod r.id = none)
    (room : s.admission.rodsHeld < 4)
    (rods : t.registry.rods = insertRod r s.registry.rods)
    (staging : t.admission.staging = s.admission.staging ++ [r.id])
    (boarding : t.admission.boarding = s.admission.boarding) (track : t.track = s.track)
    (exitQueue : t.exitQueue = s.exitQueue) : Places t := by
  have rod (id : Nat) : t.rod id = if id = r.id then some r else s.rod id := by
    unfold State.rod; rw [rods]; exact findRod_insertRod r _ id
  have spot (id : Nat) : t.spot id = if id = r.id then some .staged else s.spot id := by
    unfold State.spot
    rw [rod]
    split
    · rw [Option.map_some, staged]; rfl
    · rfl
  have absent : s.spot r.id = none := by unfold State.spot; rw [fresh]; rfl
  refine ⟨fun id => ?_, fun id => ?_, fun id p => ?_, fun id => ?_, ?_, exitQueue ▸ h.exitedOnce, ?_,
    exitQueue ▸ h.exitRoom, fun id x found wait => ?_⟩
  · rw [staging, List.mem_append, List.mem_singleton, spot, h.staged]
    by_cases same : id = r.id <;> simp [same]
  · rw [boarding, h.boarding, spot]
    by_cases same : id = r.id <;> simp [same, absent]
  · rw [track, h.onTrack, spot]
    by_cases same : id = r.id <;> simp [same, absent]
  · rw [exitQueue, h.exited, spot]
    by_cases same : id = r.id <;> simp [same, absent]
  · rw [staging]
    refine h.stagedOnce.append (List.nodup_singleton _) ?_
    rw [List.disjoint_singleton, h.staged, absent]
    nofun
  · unfold Admission.rodsHeld at room ⊢
    rw [boarding, staging, List.length_append, List.length_singleton]
    cases b : s.admission.boarding <;> simp only [b] at room ⊢ <;> omega
  · rw [rod] at found
    split at found
    · cases found; exact untouched
    · exact h.untouched id x found wait

theorem spot_erase {s t : State} {id : Nat} (rods : t.registry.rods = eraseRod id s.registry.rods)
    (j : Nat) : t.spot j = if j = id then none else s.spot j := by
  unfold State.spot State.rod
  rw [rods, findRod_eraseRod]
  split <;> rfl

theorem untouched_erase {s t : State} {id : Nat} (h : Places s)
    (rods : t.registry.rods = eraseRod id s.registry.rods) (j : Nat) (r : RodRecord)
    (found : t.rod j = some r) (wait : r.waits) : r.isUntouched := by
  unfold State.rod at found
  rw [rods, findRod_eraseRod] at found
  split at found
  · cases found
  · exact h.untouched j r found wait

theorem deleteRod_rods_eq {s : State} {id : Nat} {r : RodRecord} (known : s.rod id = some r) :
    (s.deleteRod id).registry.rods = eraseRod id s.registry.rods := by
  unfold State.deleteRod
  rw [known]

/-- A rod withdrawn leaves the staging queue (R71). -/
theorem Places.withdraw {s t : State} (h : Places s) {id : Nat} (staged : s.spot id = some .staged)
    (rods : t.registry.rods = eraseRod id s.registry.rods)
    (staging : t.admission.staging = s.admission.staging.filter (· != id))
    (boarding : t.admission.boarding = s.admission.boarding) (track : t.track = s.track)
    (exitQueue : t.exitQueue = s.exitQueue) : Places t := by
  have spot := spot_erase rods
  refine ⟨fun j => ?_, fun j => ?_, fun j p => ?_, fun j => ?_, staging ▸ h.stagedOnce.filter _,
    exitQueue ▸ h.exitedOnce, ?_, exitQueue ▸ h.exitRoom, untouched_erase h rods⟩
  · rw [staging, List.mem_filter, h.staged, spot]
    by_cases same : j = id <;> simp [same]
  · rw [boarding, h.boarding, spot]
    by_cases same : j = id <;> simp [same, staged]
  · rw [track, h.onTrack, spot]
    by_cases same : j = id <;> simp [same, staged]
  · rw [exitQueue, h.exited, spot]
    by_cases same : j = id <;> simp [same, staged]
  · have room := h.stagingRoom
    have fewer : t.admission.staging.length ≤ s.admission.staging.length := by
      rw [staging]; exact List.length_filter_le _ _
    unfold Admission.rodsHeld at room ⊢
    rw [boarding]
    cases b : s.admission.boarding <;> simp only [b] at room ⊢ <;> omega

/-- A rod confirmed leaves the head of the exit queue (R137). -/
theorem Places.confirm {s t : State} (h : Places s) {id : Nat} {rest : List Nat}
    (head : s.exitQueue = id :: rest) (rods : t.registry.rods = eraseRod id s.registry.rods)
    (exitQueue : t.exitQueue = rest) (admission : t.admission = s.admission)
    (track : t.track = s.track) : Places t := by
  have exited : s.spot id = some .exited := (h.exited id).1 (by rw [head]; exact List.mem_cons_self)
  have once := h.exitedOnce
  rw [head, List.nodup_cons] at once
  have room := h.exitRoom
  rw [head, List.length_cons] at room
  have spot := spot_erase rods
  refine ⟨fun j => ?_, fun j => ?_, fun j p => ?_, fun j => ?_, admission ▸ h.stagedOnce,
    exitQueue ▸ once.2, admission ▸ h.stagingRoom, ?_, untouched_erase h rods⟩
  · rw [admission, h.staged, spot]
    by_cases same : j = id <;> simp [same, exited]
  · rw [admission, h.boarding, spot]
    by_cases same : j = id <;> simp [same, exited]
  · rw [track, h.onTrack, spot]
    by_cases same : j = id <;> simp [same, exited]
  · have before := h.exited j
    rw [head, List.mem_cons] at before
    rw [exitQueue, spot]
    by_cases same : j = id
    · simp [same, once.1]
    · simpa [same] using before
  · rw [exitQueue]; omega

/-! ## A rod is bound and given back (R31, R42) -/

theorem updateRod_place (rods : List RodRecord) (id j : Nat) (p : Place) :
    findRod (updateRod id (fun r => { r with place := p }) rods) j =
      (findRod rods j).map fun r => if r.id = id then { r with place := p } else r :=
  findRod_updateRod (f := fun r => { r with place := p }) (fun _ e => e) rods j

theorem spot_update {s t : State} {id : Nat} {p : Place} {r : RodRecord} (known : s.rod id = some r)
    (rods : t.registry.rods = updateRod id (fun r => { r with place := p }) s.registry.rods)
    (j : Nat) : t.spot j = if j = id then some p.spot else s.spot j := by
  unfold State.spot State.rod
  rw [rods, updateRod_place, Option.map_map]
  split
  · next same =>
    subst same
    rw [show findRod s.registry.rods j = some r from known]
    simp [findRod_id known]
  · next other =>
    cases found : findRod s.registry.rods j with
    | none => rfl
    | some x => simp [findRod_id found, other]

/-- A place among those of a rod that has not boarded keeps the rod untouched. -/
theorem untouched_update {s t : State} {id : Nat} {p : Place} (h : Places s)
    (before : ∀ r, s.rod id = some r → r.waits)
    (rods : t.registry.rods = updateRod id (fun r => { r with place := p }) s.registry.rods)
    (j : Nat) (r : RodRecord) (found : t.rod j = some r) (wait : r.waits) : r.isUntouched := by
  unfold State.rod at found
  rw [rods, updateRod_place, Option.map_eq_some_iff] at found
  obtain ⟨x, known, rfl⟩ := found
  by_cases same : x.id = id
  · rw [if_pos same] at wait ⊢
    have known : s.rod id = some x := by rw [← same, findRod_id known]; exact known
    exact h.untouched id x known (before x known)
  · rw [if_neg same] at wait ⊢
    exact h.untouched j x known wait

/-- The head of the staging queue moves to the boarding slot, which is empty. -/
theorem Places.bindHead {s t : State} (h : Places s) {id : Nat} {rest : List Nat}
    (head : s.admission.staging = id :: rest) (empty : s.admission.boarding = .empty)
    (rods : t.registry.rods =
      updateRod id (fun r => { r with place := .boarding }) s.registry.rods)
    (staging : t.admission.staging = rest) (boarding : t.admission.boarding = .rod id)
    (slots : t.track.slots = s.track.slots) (exitQueue : t.exitQueue = s.exitQueue) : Places t := by
  have staged : s.spot id = some .staged := (h.staged id).1 (by rw [head]; exact List.mem_cons_self)
  obtain ⟨r, known, place⟩ := spot_eq.1 staged
  have spot := spot_update known rods
  have once := h.stagedOnce
  rw [head, List.nodup_cons] at once
  have unbound (j : Nat) : s.spot j ≠ some .boarding := fun b => by
    rw [← h.boarding, empty] at b; cases b
  refine ⟨fun j => ?_, fun j => ?_, fun j p => ?_, fun j => ?_, staging ▸ once.2,
    exitQueue ▸ h.exitedOnce, ?_, exitQueue ▸ h.exitRoom,
    untouched_update h (fun x found => ?_) rods⟩
  · have before := h.staged j
    rw [head, List.mem_cons] at before
    rw [staging, spot]
    by_cases same : j = id
    · simp [same, once.1, Place.spot]
    · simpa [same] using before
  · rw [boarding, spot]
    by_cases same : j = id
    · simp [same, Place.spot]
    · simp [same, Ne.symm same, unbound]
  · rw [slots, h.onTrack, spot]
    by_cases same : j = id <;> simp [same, staged, Place.spot]
  · rw [exitQueue, h.exited, spot]
    by_cases same : j = id <;> simp [same, staged, Place.spot]
  · have room := h.stagingRoom
    unfold Admission.rodsHeld at room ⊢
    rw [empty, head] at room
    rw [boarding, staging]
    exact room
  · rw [known] at found
    cases found
    exact .inl ((spot_staged r).1 place)

/-- The rod of the boarding slot returns to the head of the staging queue (R42). -/
theorem Places.unbindRod {s t : State} (h : Places s) {id : Nat} (bound : s.admission.boarding = .rod id)
    (rods : t.registry.rods = updateRod id (fun r => { r with place := .staged }) s.registry.rods)
    (staging : t.admission.staging = id :: s.admission.staging)
    (boarding : t.admission.boarding = .empty)
    (slots : t.track.slots = s.track.slots) (exitQueue : t.exitQueue = s.exitQueue) : Places t := by
  have boards : s.spot id = some .boarding := (h.boarding id).1 bound
  obtain ⟨r, known, place⟩ := spot_eq.1 boards
  have spot := spot_update known rods
  refine ⟨fun j => ?_, fun j => ?_, fun j p => ?_, fun j => ?_, ?_,
    exitQueue ▸ h.exitedOnce, ?_, exitQueue ▸ h.exitRoom,
    untouched_update h (fun x found => ?_) rods⟩
  · rw [staging, List.mem_cons, h.staged, spot]
    by_cases same : j = id <;> simp [same, Place.spot]
  · rw [boarding, spot]
    by_cases same : j = id
    · simp [same, Place.spot]
    · have other : s.spot j ≠ some .boarding := fun b => by
        rw [← h.boarding, bound] at b; cases b; exact same rfl
      simp [same, other]
  · rw [slots, h.onTrack, spot]
    by_cases same : j = id <;> simp [same, boards, Place.spot]
  · rw [exitQueue, h.exited, spot]
    by_cases same : j = id <;> simp [same, boards, Place.spot]
  · rw [staging, List.nodup_cons]
    refine ⟨fun queued => ?_, h.stagedOnce⟩
    rw [h.staged, boards] at queued
    cases queued
  · have room := h.stagingRoom
    unfold Admission.rodsHeld at room ⊢
    rw [bound] at room
    rw [boarding, staging]
    exact room
  · rw [known] at found
    cases found
    exact .inr ((spot_boarding r).1 place)

/-- A gap in the boarding slot, before or after, is no rod. -/
theorem Places.writeBoarding {s t : State} (h : Places s)
    (before : ∀ id, s.admission.boarding ≠ .rod id) (after : ∀ id, t.admission.boarding ≠ .rod id)
    (rods : t.registry.rods = s.registry.rods)
    (staging : t.admission.staging = s.admission.staging)
    (slots : t.track.slots = s.track.slots) (exitQueue : t.exitQueue = s.exitQueue) : Places t := by
  have spot := spot_congr (s := s) (t := t) rods
  refine ⟨fun j => ?_, fun j => ?_, fun j p => ?_, fun j => ?_, staging ▸ h.stagedOnce,
    exitQueue ▸ h.exitedOnce, ?_, exitQueue ▸ h.exitRoom, fun j r found => ?_⟩
  · rw [staging, spot]; exact h.staged j
  · rw [spot, ← h.boarding]
    exact iff_of_false (after j) (before j)
  · rw [slots, spot]; exact h.onTrack j p
  · rw [exitQueue, spot]; exact h.exited j
  · have room := h.stagingRoom
    unfold Admission.rodsHeld at room ⊢
    rw [staging]
    cases b : s.admission.boarding with
    | rod id => exact absurd b (before id)
    | _ =>
      cases c : t.admission.boarding with
      | rod id => exact absurd c (after id)
      | _ => simpa only [b] using room
  · unfold State.rod at found
    rw [rods] at found
    exact h.untouched j r found

end Sys2Proof.Machine
end

section
/-! PROOFS. The places of the rods, continued: the shift, the beginning and the end of a step, and that
every elementary change keeps the places. -/

namespace Sys2Proof.Machine

/-! ## The shift (R33) -/

/-- What is at a position after a shift. -/
theorem shiftSlots_get (entering : Option Nat) (slots : List (Option Nat)) (p : Nat) :
    (shiftSlots entering slots)[p]? =
      if p < slots.length then (entering :: slots)[p]? else none := by
  unfold shiftSlots
  rw [List.getElem?_take]

/-- The rod at L - 1 is the one whose position is L - 1. -/
theorem Places.lastSlot_iff {s : State} (h : Places s) {id p : Nat}
    (at_ : s.spot id = some (.onTrack p)) :
    s.track.lastSlot = some id ↔ p + 1 = s.track.slots.length := by
  have inside : p < s.track.slots.length := by
    have slot := (h.onTrack id p).2 at_
    exact (List.getElem?_eq_some_iff.1 slot).1
  constructor
  · intro last
    have there := (h.onTrack id _).1 (TrackControl.lastSlot_eq last)
    rw [there] at at_
    cases at_
    omega
  · intro last
    have slot := (h.onTrack id p).2 at_
    unfold TrackControl.lastSlot
    rw [List.getLast?_eq_getElem?, show s.track.slots.length - 1 = p by omega, slot]
    rfl

/-- Where a rod is after a shift (R33). -/
theorem PlaceInv.spot_shift {s : State} (P : PlaceInv s) (id : Nat) :
    s.shift.1.spot id =
      (s.spot id).map fun
        | .staged => .staged
        | .boarding => .onTrack 0
        | .onTrack p => if s.track.lastSlot = some id then .exited else .onTrack (p + 1)
        | .exited => .exited := by
  unfold State.spot
  cases found : s.rod id with
  | none => rw [shift_rod, found]; rfl
  | some r =>
    rw [P.rod_shift found]
    simp only [Option.map_some, Option.some.injEq]
    unfold State.rodAfterShift State.placeAfterShift
    rw [findRod_id found]
    dsimp only
    cases r.place with
    | onTrack p b => by_cases leaves : s.track.lastSlot = some id <;> simp [leaves, Place.spot]
    | _ => rfl

/-- A rod that has not boarded stands at a shift. -/
theorem PlaceInv.waits_shift {s : State} (P : PlaceInv s) {id : Nat} {r : RodRecord}
    (found : s.shift.1.rod id = some r) (wait : r.waits) : s.rod id = some r ∧ r.waits := by
  rw [shift_rod, Option.map_eq_some_iff] at found
  obtain ⟨x, known, rfl⟩ := found
  rw [P.shiftedRod_eq known] at wait ⊢
  unfold State.rodAfterShift State.placeAfterShift at wait ⊢
  cases place : x.place with
  | staged =>
    have stays : s.track.lastSlot ≠ some x.id := fun last => by
      obtain ⟨y, b, found, _, there⟩ := P.lastSlot last
      rw [findRod_id known, known] at found
      cases found
      rw [place] at there
      cases there
    rw [if_neg stays]
    have same : ({ x with place := .staged } : RodRecord) = x := by rw [← place]
    exact ⟨by dsimp only; rw [same]; exact known, .inl rfl⟩
  | boarding => rw [place] at wait; rcases wait with w | w <;> cases w
  | exited b e d => rw [place] at wait; rcases wait with w | w <;> cases w
  | onTrack p b =>
    rw [place] at wait
    dsimp only at wait
    split at wait <;> rcases wait with w | w <;> cases w

theorem shift_slots (s : State) :
    s.shift.1.track.slots = shiftSlots s.admission.boarding.slot s.track.slots := by
  rw [shift_track]; split <;> rfl

/-- The shift keeps the places, on a track that has slots and with room for the rod that leaves. -/
theorem PlaceInv.shift {s : State} (P : PlaceInv s) (long : s.track.length ≠ 0)
    (room : s.track.lastSlot.isSome = true → s.exitQueue.length < 8) : Places s.shift.1 := by
  obtain ⟨h, _, _⟩ := (placeInv_iff s).1 P
  have spot := P.spot_shift
  have admission := shift_admission s
  have exitQueue := P.exitQueue_shift
  have long : 0 < s.track.slots.length := Nat.pos_of_ne_zero long
  have last (id : Nat) (e : s.track.lastSlot = some id) :
      s.spot id = some (.onTrack (s.track.slots.length - 1)) :=
    (h.onTrack id _).1 (TrackControl.lastSlot_eq e)
  refine ⟨fun id => ?_, fun id => ?_, fun id p => ?_, fun id => ?_, ?_, ?_, ?_, ?_, fun id r found wait => ?_⟩
  · rw [admission, spot, h.staged]
    cases s.spot id with
    | none => simp
    | some x => cases x <;> simp only [Option.map_some] <;> (try split) <;> simp
  · rw [admission, spot]
    cases s.spot id with
    | none => simp
    | some x => cases x <;> simp only [Option.map_some] <;> (try split) <;> simp
  · rw [shift_slots, shiftSlots_get, spot]
    cases p with
    | zero =>
      rw [if_pos long]
      have entering : (s.admission.boarding.slot :: s.track.slots)[0]? = some (some id) ↔
          s.admission.boarding = .rod id := by
        cases s.admission.boarding <;> simp [Boarding.slot]
      rw [entering, h.boarding]
      cases s.spot id with
      | none => simp
      | some x => cases x <;> simp only [Option.map_some] <;> (try split) <;> simp
    | succ q =>
      have before := h.onTrack id q
      rw [List.getElem?_cons_succ]
      cases at_ : s.spot id with
      | none => rw [at_] at before; simp_all
      | some x =>
        rw [at_] at before
        cases x with
        | onTrack r =>
          have exits := h.lastSlot_iff at_
          have inside : r < s.track.slots.length :=
            (List.getElem?_eq_some_iff.1 ((h.onTrack id r).2 at_)).1
          simp only [Option.some.injEq, Spot.onTrack.injEq, Option.map_some] at before ⊢
          by_cases e : s.track.lastSlot = some id
          · rw [if_pos e]
            have := exits.1 e
            simp only [reduceCtorEq, iff_false]
            split
            · rw [before]; omega
            · nofun
          · rw [if_neg e, Spot.onTrack.injEq]
            have : r + 1 ≠ s.track.slots.length := fun q => e (exits.2 q)
            split
            · rw [before]; omega
            · simp only [reduceCtorEq, false_iff]; omega
        | _ => simp_all
  · rw [exitQueue, List.mem_append, Option.mem_toList, h.exited, spot]
    cases at_ : s.spot id with
    | none =>
      simp only [reduceCtorEq, Option.map_none, false_or, iff_false]
      intro e; rw [last id e] at at_; cases at_
    | some x =>
      cases x with
      | onTrack p =>
        simp only [Option.some.injEq, reduceCtorEq, Option.map_some, false_or]
        split <;> simp [*]
      | _ =>
        simp only [Option.some.injEq, reduceCtorEq, Option.map_some, false_or, true_or, iff_false]
        try (intro e; rw [last id e] at at_; cases at_)
  · rw [admission]; exact h.stagedOnce
  · rw [exitQueue]
    refine h.exitedOnce.append (by cases s.track.lastSlot <;> simp) ?_
    intro id queued leaves
    rw [Option.mem_toList] at leaves
    rw [h.exited, last id leaves] at queued
    cases queued
  · have fits := h.stagingRoom
    rw [admission]
    unfold Admission.rodsHeld at fits ⊢
    dsimp only
    split at fits <;> omega
  · rw [exitQueue, List.length_append]
    have fits := h.exitRoom
    cases e : s.track.lastSlot with
    | none => simpa using fits
    | some id =>
      have := room (by rw [e]; rfl)
      simp only [Option.toList_some, List.length_singleton]
      omega
  · obtain ⟨known, wait⟩ := P.waits_shift found wait
    exact h.untouched id r known wait

/-! ## The beginning and the end of a step (R30, R31, R35) -/

/-- An unbound step with an empty boarding slot. -/
theorem placeInv_of_unbound {s : State} (h : Places s) (empty : s.admission.boarding = .empty)
    (unbound : ¬ s.track.binds) : PlaceInv s :=
  (placeInv_iff s).2 ⟨h, iff_of_false (fun e => e empty) unbound, fun b => absurd b unbound⟩

theorem boardingChoice_head {s : State} {id : Nat} (e : s.boardingChoice = .head id) :
    ∃ rest, s.admission.staging = id :: rest := by
  unfold State.boardingChoice at e
  split at e
  · cases e
  · next head rest staging =>
    have : head = id := by
      unfold Admission.choiceFor at e
      repeat' split at e
      all_goals first | (cases e; done) | exact Choice.head.inj e
    exact ⟨rest, this ▸ staging⟩

/-- Entry to ADVANCING binds the boarding slot, where there is room at the exit (R31). -/
theorem Places.enterAdvancing {s : State} (h : Places s) (empty : s.admission.boarding = .empty)
    (room : s.track.lastSlot.isSome = true → s.exitQueue.length < 8) :
    PlaceInv s.enterAdvancing.1 := by
  have track : s.enterAdvancing.1.track = { s.track with step := .advancing s.track.advanceLimit } := by
    simp [State.enterAdvancing]
  have binds : s.enterAdvancing.1.track.binds := by rw [track]; exact .inl rfl
  have kept : ExitRoomKept s.enterAdvancing.1 := by
    intro _
    rw [track, enterAdvancing_exitQueue]
    exact room
  refine (placeInv_iff _).2 ⟨?_, iff_of_true ?_ binds, kept⟩
  · have slots : s.enterAdvancing.1.track.slots = s.track.slots := by rw [track]
    unfold State.enterAdvancing State.bindChoice at slots ⊢
    split
    · next id choice =>
      obtain ⟨rest, head⟩ := boardingChoice_head choice
      exact h.bindHead head empty rfl (by simp [head]) rfl rfl rfl
    · next unintended choice =>
      exact h.writeBoarding (by simp [empty]) (by simp) rfl rfl rfl rfl
  · unfold State.enterAdvancing State.bindChoice
    split <;> simp

theorem Places.beginStep {s : State} (h : Places s) (empty : s.admission.boarding = .empty) :
    PlaceInv s.beginStep.1 := by
  unfold State.beginStep
  split
  · exact placeInv_of_unbound (h.same rfl rfl rfl rfl rfl) empty
      (by simp [TrackControl.binds, TrackControl.advanceLine])
  · next free =>
    refine h.enterAdvancing empty fun last => ?_
    simp only [State.exitBlocked, last, Bool.true_and, decide_eq_true_eq, Nat.not_le] at free
    exact free

theorem Places.endSettling {s : State} (h : Places s) (empty : s.admission.boarding = .empty) :
    PlaceInv s.endSettling.1 := by
  unfold State.endSettling
  split
  · exact (h.same (t := s.mapTrack fun t => { t with owed := false }) rfl rfl rfl rfl rfl).beginStep
      empty
  · exact placeInv_of_unbound (h.same rfl rfl rfl rfl rfl) empty
      (by simp [TrackControl.binds, TrackControl.advanceLine])

/-- A step that is IDLE or SETTLING after a shift binds nothing. -/
theorem Places.setStep {s : State} (h : Places s) (empty : s.admission.boarding = .empty)
    {step : StepState} (unbound : ¬ ({ s.track with step := step } : TrackControl).binds) :
    PlaceInv (s.setStep step) :=
  placeInv_of_unbound (h.same rfl rfl rfl rfl rfl) empty unbound

theorem Places.finishShift {s : State} (h : Places s) (empty : s.admission.boarding = .empty) :
    PlaceInv s.finishShift.1 := by
  have idle : PlaceInv (s.setStep .idle) :=
    h.setStep empty (by simp [TrackControl.binds, TrackControl.advanceLine])
  unfold State.finishShift State.beginSettling
  split
  · split
    · exact h.endSettling empty
    · exact h.setStep empty (by simp [TrackControl.binds, TrackControl.advanceLine])
  · exact idle.mapTrack _ rfl .rfl
  · exact idle
  · exact idle

theorem shift_boarding (s : State) : s.shift.1.admission.boarding = .empty := by
  rw [shift_admission]

/-! ## The changes of a step -/

theorem PlaceInv.empty_of_unbound {s : State} (P : PlaceInv s) (unbound : ¬ s.track.binds) :
    s.admission.boarding = .empty := by
  by_contra bound
  exact unbound (P.bound.1 bound)

section Step
variable {s : State} (m : MotionInv s) (P : PlaceInv s)
include m P

/-- A bound step moves, so that the track has slots. -/
theorem PlaceInv.shift_of_binds (binds : s.track.binds) : Places s.shift.1 := by
  obtain ⟨_, _, room⟩ := (placeInv_iff s).1 P
  refine P.shift ?_ (room binds)
  rcases binds with advancing | suspended
  · exact m.row.long_of_moving
      (by rcases m.row.moving_of_advancing advancing with e | e <;> simp [e])
  · exact (m.row.held_of_suspended suspended).2.2.2

theorem PlaceInv.normalShift (advancing : s.track.advanceLine = true) : PlaceInv s.normalShift.1 :=
  (P.shift_of_binds m (.inl advancing)).finishShift (shift_boarding s)

theorem PlaceInv.completeSuspended (suspended : s.track.step = .suspended) :
    PlaceInv s.completeSuspended.1 := by
  have idle : PlaceInv (s.shift.1.setStep .idle) :=
    (P.shift_of_binds m (.inr suspended)).setStep (shift_boarding s)
      (by simp [TrackControl.binds, TrackControl.advanceLine])
  refine idle.mapRods (f := fun r =>
    match r.place with
    | .onTrack _ _ => r.addMark .lateShift
    | .staged => r
    | .boarding => r
    | .exited _ _ _ => r) (fun id => ?_) (fun r => ?_) (fun r wait => ?_) rfl rfl rfl
  · refine findRod_map (fun r => ?_) _ id
    split <;> simp
  · split <;> simp
  · rcases wait with w | w <;> simp only [w]

omit m in
theorem PlaceInv.settle (due : s.track.settleDue = true) : PlaceInv s.endSettling.1 := by
  have step : s.track.step = .settling 0 := by simpa [TrackControl.settleDue] using due
  exact ((placeInv_iff s).1 P).1.endSettling
    (P.empty_of_unbound (by simp [TrackControl.binds, TrackControl.advanceLine, step]))

omit m in
theorem PlaceInv.cadenceEffect : PlaceInv s.cadenceEffect.1 := by
  unfold State.cadenceEffect
  split
  · next step =>
    exact ((placeInv_iff s).1 P).1.beginStep
      (P.empty_of_unbound (by simp [TrackControl.binds, TrackControl.advanceLine, step]))
  · exact P
  · exact P.mapTrack (fun t => { t with owed := true }) rfl .rfl
  · exact P

end Step

/-- ABANDON_STEP gives the bound rod back, or drops the gap (R42). -/
theorem PlaceInv.abandonSuspended {s : State} (P : PlaceInv s) : PlaceInv s.abandonSuspended := by
  obtain ⟨h, _, _⟩ := (placeInv_iff s).1 P
  unfold State.abandonSuspended
  split
  · next id bound =>
    exact placeInv_of_unbound (h.unbindRod bound rfl rfl rfl rfl rfl) rfl
      (by simp [TrackControl.binds, TrackControl.advanceLine])
  · next gap =>
    exact placeInv_of_unbound (h.writeBoarding (by simp [gap]) (by simp) rfl rfl rfl rfl) rfl
      (by simp [TrackControl.binds, TrackControl.advanceLine])
  · next empty => exact h.setStep empty (by simp [TrackControl.binds, TrackControl.advanceLine])

/-- CONFIRM makes room at the exit, and a step that waits for it is bound (R44, R137). -/
theorem PlaceInv.confirmHead {s : State} (P : PlaceInv s) {id : Nat} {rest : List Nat}
    (head : s.exitQueue = id :: rest) : PlaceInv (s.confirmHead id).1 := by
  obtain ⟨h, bound, _⟩ := (placeInv_iff s).1 P
  obtain ⟨r, known, _⟩ := spot_eq.1 ((h.exited id).1 (by rw [head]; exact List.mem_cons_self))
  have removed : Places { s.deleteRod id with exitQueue := s.exitQueue.tail } :=
    h.confirm head (deleteRod_rods_eq known) (by simp [head]) (by simp) (by simp)
  have fits := h.exitRoom
  rw [head, List.length_cons] at fits
  have kept : PlaceInv { s.deleteRod id with exitQueue := s.exitQueue.tail } := by
    refine (placeInv_iff _).2 ⟨removed, ?_, fun _ _ => ?_⟩
    · unfold Bound at bound ⊢
      rw [← deleteRod_admission s id, ← deleteRod_track s id] at bound
      exact bound
    · simp only [head, List.tail_cons]; omega
  unfold State.confirmHead
  dsimp only
  split
  · next n step =>
    refine removed.enterAdvancing ?_ fun _ => ?_
    · rw [deleteRod_admission]
      exact P.empty_of_unbound (by simp [TrackControl.binds, TrackControl.advanceLine, step])
    · simp only [head, List.tail_cons]; omega
  all_goals exact kept

/-- A track that holds no rod may be rebuilt (R22). -/
theorem PlaceInv.setLength {s : State} (P : PlaceInv s) (empty : s.track.isEmpty = true)
    (idle : s.track.step = .idle) (length : Nat) :
    PlaceInv (s.mapTrack fun t => { t with slots := List.replicate length none }) := by
  obtain ⟨h, bound, room⟩ := (placeInv_iff s).1 P
  have unbound : ¬ s.track.binds := by simp [TrackControl.binds, TrackControl.advanceLine, idle]
  refine placeInv_of_unbound ⟨h.staged, h.boarding, fun id p => ?_, h.exited, h.stagedOnce,
    h.exitedOnce, h.stagingRoom, h.exitRoom, h.untouched⟩ (not_not.1 (mt bound.1 unbound)) unbound
  refine iff_of_false (fun slot => ?_) fun there => ?_
  · have slot : (List.replicate length (none : Option Nat))[p]? = some (some id) := slot
    have := List.eq_of_mem_replicate (List.mem_of_getElem? slot)
    cases this
  · have slot := (h.onTrack id p).2 there
    have := List.all_eq_true.1 empty _ (List.mem_of_getElem? slot)
    cases this

/-! ## The kinds of changes -/

/-- Of the admission unit, the loss of a claim changes the mode alone (R84, R153). -/
theorem loseClaim_admission (s : State) (k : ClaimKind) :
    (s.loseClaim k).admission = { s.admission with mode := (s.loseClaim k).admission.mode } := by
  cases k with
  | reconfigure => rfl
  | changeover =>
    unfold State.loseClaim State.cancelPending
    dsimp only
    split <;> rfl
  | purge =>
    unfold State.loseClaim State.cancelDrain
    dsimp only
    split <;> rfl

theorem loseClaimOf_admission (s : State) (link : Link) (k : ClaimKind) :
    (s.loseClaimOf link k).admission =
      { s.admission with mode := (s.loseClaimOf link k).admission.mode } := by
  unfold State.loseClaimOf
  split
  · exact loseClaim_admission s k
  · rfl

theorem addCause_binds (k : Cause) (t : TrackControl) : (t.addCause k).binds ↔ t.binds := by
  simp [TrackControl.binds]

theorem PlaceInv.linkMove {s t : State} (move : LinkMove s t) (P : PlaceInv s) : PlaceInv t := by
  cases move with
  | channel link f class_ => exact P.same rfl rfl rfl rfl rfl .rfl
  | event c =>
    refine P.same (by simp) (by simp) (by simp) ?_ (by simp) ?_ <;> rw [route_track] <;> split
    · exact addCause_slots _ _
    · rfl
    · exact addCause_binds _ _
    · exact .rfl

@[simp] theorem countOffSchedule_place (governing : Option Nat) (tolerance : Nat) (r : RodRecord) :
    (r.countOffSchedule governing tolerance).place = r.place := by
  unfold RodRecord.countOffSchedule
  split
  · rfl
  · split
    · rfl
    · dsimp only
      split
      · exact addMark_place _ _
      · rfl

@[simp] theorem markClass_place (k : ReportClass) (r : RodRecord) :
    (r.markClass k).place = r.place := by
  unfold RodRecord.markClass
  split
  · rfl
  · exact addMark_place _ r

@[simp] theorem expose_place (c : ZoneChannel) (tolerance : Nat) (r : RodRecord) :
    (r.expose c tolerance).place = r.place := by
  unfold RodRecord.expose
  split
  · rfl
  · rfl
  · exact addMark_place _ r
  · rw [countOffSchedule_place, markClass_place]; rfl

/-- An exposure tick marks rods on the track alone, and moves none (R118). -/
theorem PlaceInv.exposed {s : State} (P : PlaceInv s) : PlaceInv s.exposed := by
  refine P.mapRods (f := s.exposeRod) (fun id => findRod_map (exposeRod_id s) _ id) (fun r => ?_)
    (fun r wait => ?_) rfl rfl rfl
  · unfold State.exposeRod
    split
    · split
      · rfl
      · rw [expose_place]
    all_goals rfl
  · unfold State.exposeRod
    rcases wait with w | w <;> rw [w]

theorem PlaceInv.lineMove {s t : State} (move : LineMove s t) (m : MotionInv s) (P : PlaceInv s) :
    PlaceInv t := by
  cases move with
  | break_ link =>
    refine P.same (by simp [State.resetLink]) ?_ ?_ (by simp [State.resetLink])
      (by simp [State.resetLink]) (by simp [State.resetLink]) <;>
    · unfold State.resetLink State.loseClaimsOf
      rw [loseClaimOf_admission, loseClaimOf_admission, loseClaimOf_admission]
      rfl
  | holdRises =>
    unfold TrackControl.holdLineRises
    refine P.mapTrack _ ?_ ?_ <;> split
    · rfl
    · exact addCause_slots _ _
    · exact .rfl
    · exact addCause_binds _ _
  | holdFalls => exact P.mapTrack _ rfl .rfl
  | doneLine level => exact P.mapTrack _ rfl .rfl
  | shift advancing => exact P.normalShift m advancing
  | late suspended => exact P.completeSuspended m suspended
  | cadence due =>
    exact (P.mapTrack (fun t => { t with cadenceCount := 0 }) rfl .rfl).cadenceEffect
  | settle due => exact P.settle due
  | suspend due =>
    have step : s.track.step = .advancing 0 := by simpa [TrackControl.advanceLimitDue] using due
    exact P.mapTrack _ rfl (iff_of_true (.inr rfl) (.inl (by simp [TrackControl.advanceLine, step])))
  | withdrawStep due =>
    have step : s.track.step = .exitWait 0 := by simpa [TrackControl.exitWaitDue] using due
    exact P.mapTrack _ rfl (by
      simp [TrackControl.binds, TrackControl.advanceLine, step, TrackControl.withdrawStep,
        TrackControl.enterHeld])
  | exposure due => exact P.exposed
  | count =>
    refine P.same rfl rfl rfl ?_ rfl ?_
    · unfold State.countTick TrackControl.tick; dsimp only; split <;> rfl
    · change s.track.tick.binds ↔ _
      simp [TrackControl.binds]

theorem beginDrain_keeps (s : State) :
    s.beginDrain.track.slots = s.track.slots ∧ s.beginDrain.track.step = s.track.step ∧
      s.beginDrain.admission.staging = s.admission.staging ∧
      s.beginDrain.admission.boarding = s.admission.boarding := by
  unfold State.beginDrain State.checkDrain
  dsimp only
  split
  · split <;> exact ⟨rfl, rfl, rfl, rfl⟩
  · exact ⟨rfl, rfl, rfl, rfl⟩

theorem stopLine_keeps (s : State) :
    s.stopLine.track.slots = s.track.slots ∧ s.stopLine.track.step = s.track.step := by
  unfold State.stopLine State.checkDrain
  split <;> exact ⟨rfl, rfl⟩

theorem binds_of_step {t u : TrackControl} (step : u.step = t.step) : u.binds ↔ t.binds := by
  unfold TrackControl.binds TrackControl.advanceLine; rw [step]

theorem start_keeps (t : TrackControl) : t.start.slots = t.slots ∧ (t.start.binds ↔ t.binds) := by
  unfold TrackControl.start
  dsimp only
  split
  · exact ⟨addCause_slots _ _, addCause_binds _ _⟩
  · exact ⟨rfl, .rfl⟩

theorem hangRod_admission (s : State) (id : Nat) (i : Fin 32) (format : Nat) :
    (s.hangRod id i format).admission = { s.admission with
      staging := s.admission.staging ++ [id]
      running := some (s.admission.running.getD format) } := by
  unfold State.hangRod
  dsimp only
  split <;> rfl

theorem revise_spot (c : ChainResult) (r : RodRecord) :
    (r.revise c).place.spot = r.place.spot := by
  have quarantined (r : RodRecord) : (RodRecord.revise.quarantined r).place.spot = r.place.spot := by
    unfold RodRecord.revise.quarantined
    cases h : r.place <;> simp only [h, Place.spot]
  cases c with
  | clear => rfl
  | _ => exact (quarantined _).trans (congrArg Place.spot (applyResolution_place _ r))

/-- TAKE marks and turns the disposition of the rod at the head of the exit queue (R136). -/
theorem PlaceInv.take {s : State} (P : PlaceInv s) {id : Nat} (c : ChainResult) (exits : id ∈ s.exitQueue) :
    PlaceInv (s.mapRods (updateRod id (RodRecord.revise c))) := by
  have spot := ((placeInv_iff s).1 P).1.exited id |>.1 exits
  refine (placeInv_iff _).2 ?_
  have rod (j : Nat) : (s.mapRods (updateRod id (RodRecord.revise c))).rod j =
      (s.rod j).map fun r => if r.id = id then r.revise c else r :=
    findRod_updateRod (fun r e => (revise_id c r).trans e) _ j
  obtain ⟨h, bound, room⟩ := (placeInv_iff s).1 P
  refine ⟨h.congr (fun j => ?_) rfl rfl rfl rfl fun j r found wait => ?_, bound, room⟩
  · unfold State.spot
    rw [rod, Option.map_map]
    cases s.rod j with
    | none => rfl
    | some r =>
      dsimp only [Option.map_some, Function.comp]
      split
      · exact congrArg some (revise_spot c r)
      · rfl
  · rw [rod, Option.map_eq_some_iff] at found
    obtain ⟨x, known, rfl⟩ := found
    by_cases same : x.id = id
    · rw [if_pos same, waits_iff, revise_spot] at wait
      have there := spot_of_rod known
      rw [← findRod_id known, same, spot] at there
      rw [← Option.some.inj there] at wait
      rcases wait with w | w <;> cases w
    · rw [if_neg same] at wait ⊢
      exact h.untouched j x known wait

theorem PlaceInv.effect {link : Link} {s t : State} (e : Effect link s t) (m : MotionInv s)
    (P : PlaceInv s) : PlaceInv t := by
  have ⟨h, bound, room⟩ := (placeInv_iff s).1 P
  cases e with
  | @hang id i l positive small free fresh opened lot =>
    have admission := hangRod_admission s id i l.format
    refine (placeInv_iff _).2 ⟨h.hang (r := newRod id i l.format s.track.stepNumber) rfl ⟨rfl, rfl, rfl⟩
      fresh free (hangRod_rods s id i l.format) (by rw [admission]; rfl) (by rw [admission])
      (by simp) (by simp), ?_, ?_⟩
    · unfold Bound; rw [admission, hangRod_track]; exact bound
    · unfold ExitRoomKept; rw [hangRod_track, hangRod_exitQueue]; exact room
  | @withdraw id r known staged =>
    have spot : s.spot id = some .staged := spot_eq.2 ⟨r, known, (spot_staged r).2 staged⟩
    refine (placeInv_iff _).2 ⟨h.withdraw spot (deleteRod_rods_eq known) rfl rfl (by simp) (by simp), ?_, ?_⟩
    · simpa only [Bound, deleteRod_track] using bound
    · simpa only [ExitRoomKept, deleteRod_track, deleteRod_exitQueue] using room
  | start =>
    obtain ⟨slots, binds⟩ := start_keeps s.track
    exact P.same rfl rfl rfl slots rfl binds
  | hold moving => exact P.mapTrack _ (addCause_slots _ _) (addCause_binds _ _)
  | stop moving rest =>
    obtain ⟨slots, step⟩ := stopLine_keeps s
    exact P.same (by simp) (by simp) (by simp) slots (by simp) (binds_of_step step)
  | confirmStep suspended => exact P.completeSuspended m suspended
  | abandonStep suspended => exact P.abandonSuspended
  | take head known => exact P.take _ (by rw [head]; exact List.mem_cons_self)
  | confirm head => exact P.confirmHead head
  | climate taken => exact P.same (by simp) (by simp) (by simp) (by simp) (by simp) (by simp)
  | claim permitted condition => exact P.same (by simp) (by simp) (by simp) (by simp) (by simp) (by simp)
  | @release k held =>
    have admission := loseClaim_admission s k
    exact P.same (by simp) (by rw [admission]) (by rw [admission]) (by simp) (by simp) (by simp)
  | purge held moving =>
    obtain ⟨slots, step, staging, boarding⟩ := beginDrain_keeps s
    exact P.same (by simp) staging boarding slots (by simp) (binds_of_step step)
  | trackLength unlocked range within =>
    have stopped : s.track.motion = .stopped := not_not.1 fun moving => by
      rw [m.movingLocked moving] at unlocked
      cases unlocked
    obtain ⟨empty, idle, _⟩ := m.stoppedRests stopped
    exact P.setLength empty idle _
  | interval v k unlocked => cases k <;> exact P.same rfl rfl rfl rfl rfl .rfl
  | _ => exact P.same rfl rfl rfl rfl rfl .rfl

theorem placeInv_of_reset {s : State} (rods : s.registry.rods = [])
    (staging : s.admission.staging = []) (boarding : s.admission.boarding = .empty)
    (slots : s.track.slots = []) (step : s.track.step = .idle) (exitQueue : s.exitQueue = []) :
    PlaceInv s := by
  have rod (id : Nat) : s.rod id = none := by unfold State.rod; rw [rods]; rfl
  constructor <;>
    simp [rod, staging, boarding, slots, step, exitQueue, Admission.rodsHeld,
      TrackControl.advanceLine]

/-- Settles O10: the motion table says when a step is bound, and every elementary change moves a rod
from the collection that its place names to the next. -/
theorem stepKeepsPlaces : Obligations.StepKeepsPlaces := by
  intro s t m P e
  exact (step_keeps (P := fun s => MotionInv s ∧ PlaceInv s)
    (fun _ _ move h => ⟨h.1.linkMove move, h.2.linkMove move⟩)
    (fun _ _ h => ⟨h.1.congr rfl rfl id, h.2.same rfl rfl rfl rfl rfl .rfl⟩)
    (fun _ _ _ own h => ⟨h.1.effect own, h.2.effect own h.1⟩)
    (fun _ _ move h => ⟨h.1.lineMove move, h.2.lineMove move h.1⟩)
    (fun _ _ => ⟨motionInv_of_reset rfl rfl, placeInv_of_reset rfl rfl rfl rfl rfl rfl⟩)
    ⟨m, P⟩ e).2

end Sys2Proof.Machine
end

section
/-! PROOFS. The lot table (R7, R9, R10): what each operation on it does to the counts, the forwards, the
OPEN lot and the numbers. -/

namespace Sys2Proof.Machine

/-! ## Counting -/

theorem rodsOfLot_eq (rods : List RodRecord) (i : Fin 32) :
    rodsOfLot rods i = (lotsOf rods).countP fun x => decide (x.1 = i) := by
  unfold rodsOfLot lotsOf
  rw [List.countP_map, List.countP_eq_length_filter]
  rfl

theorem rodsOfLot_cons (r : RodRecord) (rods : List RodRecord) (i : Fin 32) :
    rodsOfLot (r :: rods) i = rodsOfLot rods i + if r.lot = i then 1 else 0 := by
  simp [rodsOfLot_eq, lotsOf, List.countP_cons]

theorem rodsOfLot_perm {rods rods' : List RodRecord} (h : rods.Perm rods') (i : Fin 32) :
    rodsOfLot rods i = rodsOfLot rods' i := by
  unfold rodsOfLot
  exact (h.filter _).length_eq

/-- The forward of an entry, none where it is FREE. -/
def forwardOf (lots : LotTable) (j : Fin 32) : Option (Fin 32) := lots[j].bind (·.forward)

theorem referrersOf_eq (lots : LotTable) (i : Fin 32) :
    referrersOf lots i = ∑ j : Fin 32, if forwardOf lots j = some i then 1 else 0 := by
  unfold referrersOf forwardOf
  rw [Finset.sum_boole, Nat.cast_id]
  have := List.toFinset_card_of_nodup ((List.nodup_finRange 32).filter
    fun j : Fin 32 => decide (lots[j].bind (·.forward) = some i))
  rw [← this]
  congr 1
  ext j
  simp

/-- Where one entry alone changes its forward, the counts change by that entry. -/
theorem referrersOf_change {lots lots' : LotTable} (a : Fin 32)
    (others : ∀ j, j ≠ a → forwardOf lots' j = forwardOf lots j) (i : Fin 32) :
    referrersOf lots' i + (if forwardOf lots a = some i then 1 else 0) =
      referrersOf lots i + if forwardOf lots' a = some i then 1 else 0 := by
  have split (l : LotTable) := Finset.add_sum_erase Finset.univ
    (fun j => if forwardOf l j = some i then 1 else 0) (Finset.mem_univ a)
  have rest : ∑ j ∈ Finset.univ.erase a, (if forwardOf lots' j = some i then 1 else 0) =
      ∑ j ∈ Finset.univ.erase a, if forwardOf lots j = some i then 1 else 0 :=
    Finset.sum_congr rfl fun j m => by rw [others j (Finset.ne_of_mem_erase m)]
  rw [referrersOf_eq, referrersOf_eq, ← split lots, ← split lots', rest]
  omega

theorem referrersOf_congr {lots lots' : LotTable} (h : ∀ j, forwardOf lots' j = forwardOf lots j)
    (i : Fin 32) : referrersOf lots' i = referrersOf lots i := by
  rw [referrersOf_eq, referrersOf_eq]
  simp only [h]

/-- An entry to which another forwards is counted. -/
theorem referrersOf_pos {lots : LotTable} {i j : Fin 32} (h : forwardOf lots j = some i) :
    0 < referrersOf lots i := by
  unfold referrersOf
  exact List.length_pos_of_mem (List.mem_filter.2 ⟨List.mem_finRange j, decide_eq_true h⟩)

/-- An entry to which none forwards has no referrers. -/
theorem referrersOf_zero {lots : LotTable} {i : Fin 32} (h : ∀ j, forwardOf lots j ≠ some i) :
    referrersOf lots i = 0 := by
  rw [referrersOf_eq]
  simp [h]

/-! ## The table with its rods -/

/-- Counts that count, forwards to other entries in use, one OPEN lot, no number twice (R7, R9). -/
structure LotsOk (rods : List RodRecord) (lots : LotTable) : Prop where
  rodCount : ∀ (i : Fin 32) (l : Lot), lots[i] = some l → l.rodCount = rodsOfLot rods i
  rodLot : ∀ r ∈ rods, ∃ l, lots[r.lot] = some l ∧ l.format = r.format
  referrers : ∀ (i : Fin 32) (l : Lot), lots[i] = some l → l.referrers = referrersOf lots i
  forward : ∀ (i : Fin 32) (l : Lot) (f : Fin 32), lots[i] = some l → l.forward = some f →
    lots[f].isSome = true ∧ f ≠ i
  oneOpen : ∀ i j : Fin 32, isOpenLot lots[i] = true → isOpenLot lots[j] = true → i = j
  numbers : ∀ (i j : Fin 32) (l m : Lot), lots[i] = some l → lots[j] = some m →
    l.number = m.number → i = j

/-- No entry that R10 would free, but for one that is looked at. -/
def UnspentBut (i : Fin 32) (lots : LotTable) : Prop :=
  ∀ (j : Fin 32) (l : Lot), j ≠ i → lots[j] = some l → l.isSpent = false

def Unspent (lots : LotTable) : Prop := ∀ (j : Fin 32) (l : Lot), lots[j] = some l → l.isSpent = false

/-- Every entry in use was in use before, with its format. -/
def FormatsFrom (before after : LotTable) : Prop :=
  ∀ (j : Fin 32) (l : Lot), after[j] = some l → ∃ m, before[j] = some m ∧ m.format = l.format

theorem FormatsFrom.refl (lots : LotTable) : FormatsFrom lots lots := fun _ l e => ⟨l, e, rfl⟩

theorem FormatsFrom.trans {a b c : LotTable} (h : FormatsFrom a b) (k : FormatsFrom b c) :
    FormatsFrom a c := by
  intro j l e
  obtain ⟨m, eb, fb⟩ := k j l e
  obtain ⟨n, ea, fa⟩ := h j m eb
  exact ⟨n, ea, fa.trans fb⟩

/-- What a FREE entry before is after. -/
theorem FormatsFrom.free {a b : LotTable} (h : FormatsFrom a b) {j : Fin 32} (e : a[j] = none) :
    b[j] = none := by
  cases eb : b[j] with
  | none => rfl
  | some l =>
    obtain ⟨m, ea, _⟩ := h j l eb
    rw [e] at ea
    cases ea

theorem isSpent_iff (l : Lot) :
    l.isSpent = true ↔ l.status = .closed ∧ l.rodCount = 0 ∧ l.referrers = 0 := by
  simp [Lot.isSpent, and_assoc]

theorem formatsFrom_changeLot (lots : LotTable) (i : Fin 32) {f : Lot → Lot}
    (format : ∀ l, (f l).format = l.format) : FormatsFrom lots (changeLot lots i f) := by
  intro j l e
  rw [getElem_changeLot] at e
  split at e
  · obtain ⟨m, em, rfl⟩ := Option.map_eq_some_iff.1 e
    exact ⟨m, em, (format m).symm⟩
  · exact ⟨l, e, rfl⟩

/-- The forward of an entry after a change of one entry. -/
theorem forwardOf_changeLot (lots : LotTable) (i j : Fin 32) (f : Lot → Lot) :
    forwardOf (changeLot lots i f) j =
      if i = j then lots[j].bind fun l => (f l).forward else forwardOf lots j := by
  unfold forwardOf
  rw [getElem_changeLot]
  split
  · cases lots[j] <;> rfl
  · rfl

section Ok
variable {rods : List RodRecord} {lots : LotTable} (h : LotsOk rods lots)
include h

/-- No entry forwards to one without referrers. -/
theorem LotsOk.forwardOf_ne {i : Fin 32} {l : Lot} (e : lots[i] = some l) (zero : l.referrers = 0)
    (j : Fin 32) : forwardOf lots j ≠ some i := fun f => by
  have := referrersOf_pos f
  have := h.referrers i l e
  omega

/-- No rod is of a lot without rods. -/
theorem LotsOk.lot_ne {i : Fin 32} {l : Lot} (e : lots[i] = some l) (zero : l.rodCount = 0)
    {r : RodRecord} (m : r ∈ rods) : r.lot ≠ i := fun same => by
  have count := h.rodCount i l e
  unfold rodsOfLot at count
  have : 0 < (rods.filter fun r => decide (r.lot = i)).length :=
    List.length_pos_of_mem (List.mem_filter.2 ⟨m, decide_eq_true same⟩)
  omega

/-- A change of one entry that keeps its number, its format, its counts and its forward, and opens
nothing. -/
theorem LotsOk.changeLot (i : Fin 32) {f : Lot → Lot}
    (same : ∀ l, (f l).number = l.number ∧ (f l).format = l.format ∧ (f l).rodCount = l.rodCount ∧
      (f l).forward = l.forward ∧ (f l).referrers = l.referrers)
    (opens : ∀ l, (f l).status = .opened → l.status = .opened) :
    LotsOk rods (Machine.changeLot lots i f) := by
  have from_ : ∀ (j : Fin 32) (l : Lot), (Machine.changeLot lots i f)[j] = some l →
      ∃ m, lots[j] = some m ∧ l.number = m.number ∧ l.format = m.format ∧ l.rodCount = m.rodCount ∧
        l.forward = m.forward ∧ l.referrers = m.referrers ∧
        (l.status = .opened → m.status = .opened) := by
    intro j l e
    rw [getElem_changeLot] at e
    split at e
    · obtain ⟨m, em, rfl⟩ := Option.map_eq_some_iff.1 e
      obtain ⟨number, format, count, forward, referrers⟩ := same m
      exact ⟨m, em, number, format, count, forward, referrers, opens m⟩
    · exact ⟨l, e, rfl, rfl, rfl, rfl, rfl, id⟩
  have forwards (j : Fin 32) : forwardOf (Machine.changeLot lots i f) j = forwardOf lots j := by
    rw [forwardOf_changeLot]
    split
    · unfold forwardOf
      congr 1
      funext l
      exact (same l).2.2.2.1
    · rfl
  have used (j : Fin 32) : (Machine.changeLot lots i f)[j].isSome = lots[j].isSome := by
    rw [getElem_changeLot]; split <;> simp
  have wasOpen (j : Fin 32) (e : isOpenLot (Machine.changeLot lots i f)[j] = true) :
      isOpenLot lots[j] = true := by
    cases after : (Machine.changeLot lots i f)[j] with
    | none => rw [after] at e; cases e
    | some l =>
      rw [after] at e
      obtain ⟨m, em, _, _, _, _, _, opened⟩ := from_ j l after
      rw [em]
      exact decide_eq_true (opened (of_decide_eq_true e))
  refine ⟨fun j l e => ?_, fun r m => ?_, fun j l e => ?_, fun j l g e forward => ?_,
    fun a b ea eb => h.oneOpen a b (wasOpen a ea) (wasOpen b eb), fun a b l m ea eb number => ?_⟩
  · obtain ⟨m, em, _, _, count, _⟩ := from_ j l e
    rw [count]; exact h.rodCount j m em
  · obtain ⟨l, e, format⟩ := h.rodLot r m
    rw [getElem_changeLot]
    split
    · rw [e]; exact ⟨f l, rfl, (same l).2.1.trans format⟩
    · exact ⟨l, e, format⟩
  · obtain ⟨m, em, _, _, _, _, referrers, _⟩ := from_ j l e
    rw [referrers, referrersOf_congr forwards]; exact h.referrers j m em
  · obtain ⟨m, em, _, _, _, same, _⟩ := from_ j l e
    rw [used]; exact h.forward j m g em (same ▸ forward)
  · obtain ⟨l', el, numberL, _⟩ := from_ a l ea
    obtain ⟨m', em, numberM, _⟩ := from_ b m eb
    exact h.numbers a b l' m' el em (by rw [← numberL, ← numberM, number])

/-- A spent entry without a forward may be freed. -/
theorem LotsOk.freeLast {i : Fin 32} {l : Lot} (e : lots[i] = some l) (spent : l.isSpent = true)
    (last : l.forward = none) : LotsOk rods (lots.set i none) := by
  obtain ⟨_, rodCount, referrers⟩ := (isSpent_iff l).1 spent
  have entry (j : Fin 32) (m : Lot) (em : (lots.set i none)[j] = some m) : lots[j] = some m ∧ i ≠ j := by
    rw [getElem_set_lot] at em
    split at em
    · cases em
    · next ne => exact ⟨em, ne⟩
  have kept {j : Fin 32} (ne : i ≠ j) : (lots.set i none)[j] = lots[j] := by
    rw [getElem_set_lot, if_neg ne]
  have forwards (j : Fin 32) : forwardOf (lots.set i none) j = forwardOf lots j := by
    unfold forwardOf
    rw [getElem_set_lot]
    split
    · next same => rw [← same, e, Option.bind_some, last]; rfl
    · rfl
  have opened (j : Fin 32) (o : isOpenLot (lots.set i none)[j] = true) : isOpenLot lots[j] = true := by
    rw [getElem_set_lot] at o
    split at o
    · cases o
    · exact o
  refine ⟨fun j m em => h.rodCount j m (entry j m em).1, fun r m => ?_, fun j m em => ?_,
    fun j m g em forward => ?_, fun a b oa ob => h.oneOpen a b (opened a oa) (opened b ob),
    fun a b x y ex ey => h.numbers a b x y (entry a x ex).1 (entry b y ey).1⟩
  · rw [kept (h.lot_ne e rodCount m).symm]; exact h.rodLot r m
  · rw [referrersOf_congr forwards]; exact h.referrers j m (entry j m em).1
  · obtain ⟨used, ne⟩ := h.forward j m g (entry j m em).1 forward
    have : i ≠ g := fun same => h.forwardOf_ne e referrers j
      (by unfold forwardOf; rw [(entry j m em).1]; exact same ▸ forward)
    rw [kept this]; exact ⟨used, ne⟩

/-- A spent entry with a forward may be freed, and its forward has one referrer less (R10). -/
theorem LotsOk.freeNext {i f : Fin 32} {l : Lot} (e : lots[i] = some l) (spent : l.isSpent = true)
    (next : l.forward = some f) :
    LotsOk rods (Machine.changeLot (lots.set i none) f
      fun g => { g with referrers := g.referrers - 1 }) := by
  obtain ⟨_, rodCount, referrers⟩ := (isSpent_iff l).1 spent
  obtain ⟨usedF, ne⟩ := h.forward i l f e next
  generalize after : Machine.changeLot (lots.set i none) f
    (fun g => { g with referrers := g.referrers - 1 }) = lots'
  have get (j : Fin 32) : lots'[j] =
      if i = j then none
      else if f = j then lots[j].map fun g => { g with referrers := g.referrers - 1 }
      else lots[j] := by
    rw [← after, getElem_changeLot, getElem_set_lot]
    by_cases a : f = j
    · subst a; simp [ne.symm]
    · simp [a]
  have entry (j : Fin 32) (m : Lot) (em : lots'[j] = some m) : i ≠ j ∧ ∃ x, lots[j] = some x ∧
      m = { x with referrers := if f = j then x.referrers - 1 else x.referrers } := by
    rw [get] at em
    split at em
    · cases em
    · next ij =>
      refine ⟨ij, ?_⟩
      split at em
      · next fj =>
        obtain ⟨x, ex, rfl⟩ := Option.map_eq_some_iff.1 em
        exact ⟨x, ex, by rw [if_pos fj]⟩
      · next fj => exact ⟨m, em, by rw [if_neg fj]⟩
  have forwardI : forwardOf lots i = some f := by unfold forwardOf; rw [e]; exact next
  have forwardI' : forwardOf lots' i = none := by unfold forwardOf; rw [get, if_pos rfl]; rfl
  have others (j : Fin 32) (ij : j ≠ i) : forwardOf lots' j = forwardOf lots j := by
    unfold forwardOf
    rw [get, if_neg (Ne.symm ij)]
    split
    · cases lots[j] <;> rfl
    · rfl
  have count (j : Fin 32) : referrersOf lots' j = referrersOf lots j - if f = j then 1 else 0 := by
    have change := referrersOf_change i others j
    rw [forwardI, forwardI'] at change
    simp only [reduceCtorEq, if_false, Option.some.injEq] at change
    omega
  have opened (j : Fin 32) (o : isOpenLot lots'[j] = true) : isOpenLot lots[j] = true := by
    cases ej : lots'[j] with
    | none => rw [ej] at o; cases o
    | some m =>
      obtain ⟨_, x, ex, rfl⟩ := entry j m ej
      rw [ej] at o
      rw [ex]
      exact o
  refine ⟨fun j m em => ?_, fun r m => ?_, fun j m em => ?_, fun j m g em forward => ?_,
    fun a b oa ob => h.oneOpen a b (opened a oa) (opened b ob), fun a b x y ex ey number => ?_⟩
  · obtain ⟨_, x, ex, rfl⟩ := entry j m em
    exact h.rodCount j x ex
  · obtain ⟨x, ex, format⟩ := h.rodLot r m
    rw [get, if_neg (h.lot_ne e rodCount m).symm]
    split
    · rw [ex]; exact ⟨_, rfl, format⟩
    · exact ⟨x, ex, format⟩
  · obtain ⟨_, x, ex, rfl⟩ := entry j m em
    have := h.referrers j x ex
    rw [count]
    dsimp only
    split <;> omega
  · obtain ⟨_, x, ex, rfl⟩ := entry j m em
    obtain ⟨used, gj⟩ := h.forward j x g ex forward
    have ig : i ≠ g := fun same => h.forwardOf_ne e referrers j
      (by unfold forwardOf; rw [ex]; exact same ▸ forward)
    rw [get, if_neg ig]
    split
    · rw [Option.isSome_map]; exact ⟨used, gj⟩
    · exact ⟨used, gj⟩
  · obtain ⟨_, x', ex', rfl⟩ := entry a x ex
    obtain ⟨_, y', ey', rfl⟩ := entry b y ey
    exact h.numbers a b x' y' ex' ey' number

end Ok

/-- The freeing cascade ends with a table in which nothing is left to free (R10). -/
theorem LotsOk.freeIfSpent {rods : List RodRecord} {lots : LotTable} (h : LotsOk rods lots)
    {i : Fin 32} (unspent : UnspentBut i lots) :
    LotsOk rods (freeIfSpent lots i) ∧ Unspent (freeIfSpent lots i) ∧
      FormatsFrom lots (freeIfSpent lots i) := by
  have done {k : Fin 32} {l : LotTable} (off : UnspentBut k l)
      (here : ∀ m, l[k] = some m → m.isSpent = false) : Unspent l := fun j m e => by
    by_cases same : j = k
    · exact here m (same ▸ e)
    · exact off j m same e
  refine freeIfSpent_induct
    (P := fun k l => LotsOk rods l ∧ UnspentBut k l ∧ FormatsFrom lots l)
    (Q := fun l => LotsOk rods l ∧ Unspent l ∧ FormatsFrom lots l) ?_ ?_ ?_ ?_ i lots
    ⟨h, unspent, .refl lots⟩
  · rintro k l ⟨ok, off, formats⟩ free
    exact ⟨ok, done off (fun m e => by rw [free] at e; cases e), formats⟩
  · rintro k l x ⟨ok, off, formats⟩ e kept
    exact ⟨ok, done off (fun m em => by rw [e] at em; cases em; exact kept), formats⟩
  · rintro k l x ⟨ok, off, formats⟩ e spent last
    refine ⟨ok.freeLast e spent last, fun j m em => ?_, formats.trans fun j m em => ?_⟩
    all_goals
      rw [getElem_set_lot] at em
      split at em
      · cases em
    · next ne => exact off j m (Ne.symm ne) em
    · exact ⟨m, em, rfl⟩
  · rintro k l x f ⟨ok, off, formats⟩ e spent next
    have freed : FormatsFrom l (l.set k none) := fun j m em => by
      rw [getElem_set_lot] at em
      split at em
      · cases em
      · exact ⟨m, em, rfl⟩
    refine ⟨ok.freeNext e spent next, fun j m ne em => ?_,
      (formats.trans freed).trans (formatsFrom_changeLot _ _ fun _ => rfl)⟩
    rw [getElem_changeLot, if_neg (Ne.symm ne), getElem_set_lot] at em
    split at em
    · cases em
    · next kj => exact off j m (Ne.symm kj) em

end Sys2Proof.Machine
end

section
/-! PROOFS. The lot table, continued: the requests on lots, the coming and going of rods, and that every
elementary change keeps the table. -/

namespace Sys2Proof.Machine

/-! ## The requests on lots -/

theorem unspentBut_changeLot {lots : LotTable} (h : Unspent lots) (i : Fin 32) (f : Lot → Lot) :
    UnspentBut i (changeLot lots i f) := by
  intro j l ne e
  rw [getElem_changeLot, if_neg (Ne.symm ne)] at e
  exact h j l e

theorem unspent_changeLot {lots : LotTable} (h : Unspent lots) (i : Fin 32) {f : Lot → Lot}
    (kept : ∀ l, lots[i] = some l → l.isSpent = false → (f l).isSpent = false) :
    Unspent (changeLot lots i f) := by
  intro j l e
  rw [getElem_changeLot] at e
  split at e
  · next same =>
    subst same
    obtain ⟨m, em, rfl⟩ := Option.map_eq_some_iff.1 e
    exact kept m em (h i m em)
  · exact h j l e

/-- The OPEN lot closed, and freed where nothing holds it (R12). -/
theorem LotsOk.closeLotAt {rods : List RodRecord} {lots : LotTable} (h : LotsOk rods lots)
    (unspent : Unspent lots) (i : Fin 32) :
    LotsOk rods (closeLotAt lots i) ∧ Unspent (closeLotAt lots i) ∧
      FormatsFrom lots (closeLotAt lots i) := by
  have closed : LotsOk rods (Machine.changeLot lots i fun l => { l with status := .closed }) :=
    h.changeLot i (fun _ => ⟨rfl, rfl, rfl, rfl, rfl⟩) nofun
  obtain ⟨ok, none, formats⟩ := closed.freeIfSpent (unspentBut_changeLot unspent i _)
  exact ⟨ok, none,
    (formatsFrom_changeLot lots i (f := fun l => { l with status := .closed }) fun _ => rfl).trans formats⟩

/-- Every entry in use was in use before, with its number and forward. -/
def EntriesFrom (before after : LotTable) : Prop :=
  ∀ (j : Fin 32) (l : Lot), after[j] = some l → ∃ m, before[j] = some m ∧ m.number = l.number ∧
    (l.status = .opened → m.status = .opened)

theorem EntriesFrom.trans {a b c : LotTable} (h : EntriesFrom a b) (k : EntriesFrom b c) :
    EntriesFrom a c := by
  intro j l e
  obtain ⟨m, eb, number, opened⟩ := k j l e
  obtain ⟨n, ea, number', opened'⟩ := h j m eb
  exact ⟨n, ea, number'.trans number, fun o => opened' (opened o)⟩

theorem entriesFrom_changeLot (lots : LotTable) (i : Fin 32) {f : Lot → Lot}
    (number : ∀ l, (f l).number = l.number)
    (opens : ∀ l, (f l).status = .opened → l.status = .opened) :
    EntriesFrom lots (changeLot lots i f) := by
  intro j l e
  rw [getElem_changeLot] at e
  split at e
  · obtain ⟨m, em, rfl⟩ := Option.map_eq_some_iff.1 e
    exact ⟨m, em, (number m).symm, opens m⟩
  · exact ⟨l, e, rfl, id⟩

/-- Freeing gives no entry a number and opens none. -/
theorem entriesFrom_freeIfSpent (lots : LotTable) (i : Fin 32) :
    EntriesFrom lots (freeIfSpent lots i) := by
  have freed (l : LotTable) (k : Fin 32) : EntriesFrom l (l.set k none) := fun j m e => by
    rw [getElem_set_lot] at e
    split at e
    · cases e
    · exact ⟨m, e, rfl, id⟩
  refine freeIfSpent_induct (P := fun _ l => EntriesFrom lots l) (Q := fun l => EntriesFrom lots l)
    (fun _ _ h _ => h) (fun _ _ _ h _ _ => h) (fun k l _ h _ _ _ => h.trans (freed l k))
    (fun k l _ f h _ _ _ => ?_) i lots fun _ l e => ⟨l, e, rfl, id⟩
  exact (h.trans (freed l k)).trans (entriesFrom_changeLot _ f (fun _ => rfl) fun _ => id)

/-- Closing the OPEN lot leaves no lot OPEN. -/
theorem closeLotAt_noOpen {lots : LotTable} {i : Fin 32}
    (only : ∀ j, isOpenLot lots[j] = true → j = i) (j : Fin 32) :
    isOpenLot (closeLotAt lots i)[j] = false := by
  refine Bool.eq_false_iff.2 fun opened => ?_
  have entries := entriesFrom_freeIfSpent
    (changeLot lots i fun l => { l with status := .closed }) i
  cases e : (closeLotAt lots i)[j] with
  | none => rw [e] at opened; cases opened
  | some l =>
    rw [e] at opened
    obtain ⟨m, em, _, wasOpen⟩ := entries j l e
    have m_open := wasOpen (of_decide_eq_true opened)
    rw [getElem_changeLot] at em
    split at em
    · obtain ⟨x, _, rfl⟩ := Option.map_eq_some_iff.1 em
      cases m_open
    · next ne => exact ne (only j (by rw [em]; exact decide_eq_true m_open)).symm

/-- A FREE entry becomes the OPEN lot, where none is OPEN and none carries its number (R11). -/
theorem LotsOk.setNew {rods : List RodRecord} {lots : LotTable} (h : LotsOk rods lots)
    (unspent : Unspent lots) {free : Fin 32} {number format : Nat} (isFree : lots[free] = none)
    (noOpen : ∀ j : Fin 32, isOpenLot lots[j] = false)
    (fresh : ∀ (j : Fin 32) (l : Lot), lots[j] = some l → l.number ≠ number) :
    LotsOk rods (lots.set free (some (newLot number format))) ∧
      Unspent (lots.set free (some (newLot number format))) := by
  have forwards (j : Fin 32) :
      forwardOf (lots.set free (some (newLot number format))) j = forwardOf lots j := by
    unfold forwardOf
    rw [getElem_set_lot]
    split
    · next same => rw [← same, isFree]; rfl
    · rfl
  have entry (j : Fin 32) (l : Lot) (e : (lots.set free (some (newLot number format)))[j] = some l) :
      (free = j ∧ l = newLot number format) ∨ (free ≠ j ∧ lots[j] = some l) := by
    rw [getElem_set_lot] at e
    split at e
    · next same => exact .inl ⟨same, (Option.some.inj e).symm⟩
    · next ne => exact .inr ⟨ne, e⟩
  have kept {j : Fin 32} {l : Lot} (e : lots[j] = some l) :
      (lots.set free (some (newLot number format)))[j] = some l := by
    rw [getElem_set_lot, if_neg]
    · exact e
    · rintro rfl; rw [isFree] at e; cases e
  have opened (j : Fin 32)
      (o : isOpenLot (lots.set free (some (newLot number format)))[j] = true) : free = j := by
    by_contra ne
    rw [getElem_set_lot, if_neg ne, noOpen] at o
    cases o
  refine ⟨⟨fun j l e => ?_, fun r m => ?_, fun j l e => ?_, fun j l f e forward => ?_,
    fun a b oa ob => (opened a oa).symm.trans (opened b ob), fun a b l m ea eb same => ?_⟩,
    fun j l e => ?_⟩
  · rcases entry j l e with ⟨rfl, rfl⟩ | ⟨_, e⟩
    · refine (List.length_eq_zero_iff.2 (List.filter_eq_nil_iff.2 fun r m q => ?_)).symm
      obtain ⟨x, ex, _⟩ := h.rodLot r m
      have used : lots[r.lot].isSome = true := by rw [ex]; rfl
      have same : r.lot = free := of_decide_eq_true q
      rw [show lots[r.lot] = lots[free] from congrArg (fun k : Fin 32 => lots[k]) same, isFree] at used
      cases used
    · exact h.rodCount j l e
  · obtain ⟨x, ex, same⟩ := h.rodLot r m
    exact ⟨x, kept ex, same⟩
  · rw [referrersOf_congr forwards]
    rcases entry j l e with ⟨rfl, rfl⟩ | ⟨_, e⟩
    · refine (referrersOf_zero fun k fk => ?_).symm
      unfold forwardOf at fk
      obtain ⟨x, ex, fx⟩ := Option.bind_eq_some_iff.1 fk
      have := (h.forward k x free ex fx).1
      rw [isFree] at this
      cases this
    · exact h.referrers j l e
  · rcases entry j l e with ⟨rfl, rfl⟩ | ⟨_, e⟩
    · cases forward
    · obtain ⟨used, ne⟩ := h.forward j l f e forward
      obtain ⟨x, ex⟩ := Option.isSome_iff_exists.1 used
      rw [kept ex]
      exact ⟨rfl, ne⟩
  · rcases entry a l ea with ⟨rfl, rfl⟩ | ⟨_, ea⟩ <;> rcases entry b m eb with ⟨rfl, rfl⟩ | ⟨_, eb⟩
    · rfl
    · exact absurd same.symm (fresh b m eb)
    · exact absurd same (fresh a l ea)
    · exact h.numbers a b l m ea eb same
  · rcases entry j l e with ⟨rfl, rfl⟩ | ⟨_, e⟩
    · rfl
    · exact unspent j l e

theorem LotsOk.openLotAt {rods : List RodRecord} {lots : LotTable} (h : LotsOk rods lots)
    (unspent : Unspent lots) {free : Fin 32} {number format : Nat}
    (fresh : lotIndexOf lots number = none) (lowest : lowestFree lots = some free) :
    LotsOk rods (openLotAt lots free number format) ∧ Unspent (openLotAt lots free number format) ∧
      ∀ (j : Fin 32) (l : Lot), (openLotAt lots free number format)[j] = some l →
        l.format = format ∨ ∃ m, lots[j] = some m ∧ m.format = l.format := by
  have isFree := (lowestFree_some.1 lowest).1
  have noNumber (j : Fin 32) (l : Lot) (e : lots[j] = some l) : l.number ≠ number := fun same =>
    lotIndexOf_eq_none.1 fresh j (by rw [e, Option.map_some, same])
  have formats {closed : LotTable} (from_ : FormatsFrom lots closed) (j : Fin 32) (l : Lot)
      (e : (closed.set free (some (newLot number format)))[j] = some l) :
      l.format = format ∨ ∃ m, lots[j] = some m ∧ m.format = l.format := by
    rw [getElem_set_lot] at e
    split at e
    · cases e; exact .inl rfl
    · exact .inr (from_ j l e)
  unfold Machine.openLotAt
  cases opened : openLotIndex lots with
  | none =>
    obtain ⟨ok, rest⟩ := h.setNew unspent (format := format) isFree
      (openLotIndex_eq_none.1 opened) noNumber
    exact ⟨ok, rest, formats (.refl lots)⟩
  | some i =>
    obtain ⟨closed, closedUnspent, from_⟩ := h.closeLotAt unspent i
    have entries : EntriesFrom lots (Machine.closeLotAt lots i) :=
      (entriesFrom_changeLot lots i (f := fun l => { l with status := .closed })
        (fun _ => rfl) nofun).trans (entriesFrom_freeIfSpent _ i)
    obtain ⟨ok, rest⟩ := closed.setNew closedUnspent (format := format) (from_.free isFree)
      (closeLotAt_noOpen fun j o => h.oneOpen j i o (openLotIndex_some opened))
      fun j l e => by
        obtain ⟨m, em, same, _⟩ := entries j l e
        rw [← same]
        exact noNumber j m em
    exact ⟨ok, rest, formats from_⟩

/-! ## Forwards (R14, R15) -/

/-- Lot `a` forwards anew, and the referrer count of lot `b` is written. -/
def redirect (lots : LotTable) (a b : Fin 32) (la lb : Lot) (forward : Option (Fin 32)) (n : Nat) :
    LotTable :=
  (lots.set a (some { la with forward := forward })).set b (some { lb with referrers := n })

section Redirect
variable {lots : LotTable} {a b : Fin 32} {la lb : Lot} (ea : lots[a] = some la)
  (eb : lots[b] = some lb) (ab : a ≠ b)
include ea eb ab

theorem foldAt_eq : foldAt lots a b = redirect lots a b la lb (some b) (lb.referrers + 1) := by
  unfold foldAt redirect
  have after : (changeLot lots a fun l => { l with forward := some b }) =
      lots.set a (some { la with forward := some b }) := by
    unfold changeLot; rw [ea]; rfl
  rw [after]
  unfold changeLot
  rw [getElem_set_lot, if_neg ab, eb]
  rfl

theorem unfoldAt_eq :
    unfoldAt lots a b = freeIfSpent (redirect lots a b la lb none (lb.referrers - 1)) b := by
  unfold unfoldAt redirect
  have after : (changeLot lots a fun l => { l with forward := none }) =
      lots.set a (some { la with forward := none }) := by
    unfold changeLot; rw [ea]; rfl
  rw [after]
  unfold changeLot
  rw [getElem_set_lot, if_neg ab, eb]
  rfl

omit ea eb ab in
theorem getElem_redirect (x : Option (Fin 32)) (n : Nat) (j : Fin 32) :
    (redirect lots a b la lb x n)[j] =
      if b = j then some { lb with referrers := n }
      else if a = j then some { la with forward := x } else lots[j] := by
  unfold redirect
  rw [getElem_set_lot]
  split
  · rfl
  · rw [getElem_set_lot]

/-- An entry after a redirection is the entry before it, with another forward or another count. -/
theorem redirect_entry {x : Option (Fin 32)} {n : Nat} {j : Fin 32} {l : Lot}
    (e : (redirect lots a b la lb x n)[j] = some l) :
    ∃ m, lots[j] = some m ∧ l = { m with
      forward := if a = j then x else m.forward
      referrers := if b = j then n else m.referrers } := by
  rw [getElem_redirect] at e
  split at e
  · next same =>
    subst same
    cases e
    exact ⟨lb, eb, by rw [if_neg ab, if_pos rfl]⟩
  · next ne =>
    split at e
    · next same =>
      subst same
      cases e
      exact ⟨la, ea, by rw [if_pos rfl, if_neg ne]⟩
    · next ne' => exact ⟨l, e, by rw [if_neg ne', if_neg ne]⟩

/-- A forward from `a` that comes or goes, where the count of `b` follows it. -/
theorem LotsOk.redirect {rods : List RodRecord} (h : LotsOk rods lots) {x : Option (Fin 32)} {n : Nat}
    (onlyB : (la.forward = none ∧ x = some b ∧ n = lb.referrers + 1) ∨
      (la.forward = some b ∧ x = none ∧ n = lb.referrers - 1)) :
    LotsOk rods (Machine.redirect lots a b la lb x n) := by
  have get := getElem_redirect (lots := lots) (a := a) (b := b) (la := la) (lb := lb) x n
  have entry {j : Fin 32} {l : Lot} (e : (Machine.redirect lots a b la lb x n)[j] = some l) :=
    redirect_entry ea eb ab e
  have kept {j : Fin 32} {m : Lot} (e : lots[j] = some m) :
      ∃ l, (Machine.redirect lots a b la lb x n)[j] = some l ∧ l.format = m.format := by
    rw [get]
    split
    · next same => subst same; rw [eb] at e; cases e; exact ⟨_, rfl, rfl⟩
    · split
      · next same => subst same; rw [ea] at e; cases e; exact ⟨_, rfl, rfl⟩
      · exact ⟨m, e, rfl⟩
  have forwardA : forwardOf lots a = la.forward := by unfold forwardOf; rw [ea]; rfl
  have forwardA' : forwardOf (Machine.redirect lots a b la lb x n) a = x := by
    unfold forwardOf; rw [get, if_neg (Ne.symm ab), if_pos rfl]; rfl
  have others (j : Fin 32) (ne : j ≠ a) :
      forwardOf (Machine.redirect lots a b la lb x n) j = forwardOf lots j := by
    unfold forwardOf
    rw [get]
    split
    · next same => subst same; rw [eb]; rfl
    · rw [if_neg (Ne.symm ne)]
  have count (j : Fin 32) : referrersOf (Machine.redirect lots a b la lb x n) j =
      if b = j then n else referrersOf lots j := by
    have change := referrersOf_change a others j
    rw [forwardA, forwardA'] at change
    have before := h.referrers b lb eb
    by_cases same : b = j
    · subst same
      rcases onlyB with ⟨f, rfl, rfl⟩ | ⟨f, rfl, rfl⟩ <;> rw [f] at change <;> simp at change ⊢ <;>
        omega
    · rcases onlyB with ⟨f, rfl, rfl⟩ | ⟨f, rfl, rfl⟩ <;> rw [f] at change <;>
        simpa [same] using change
  have opened (j : Fin 32) (o : isOpenLot (Machine.redirect lots a b la lb x n)[j] = true) :
      isOpenLot lots[j] = true := by
    cases ej : (Machine.redirect lots a b la lb x n)[j] with
    | none => rw [ej] at o; cases o
    | some l =>
      obtain ⟨m, em, rfl⟩ := entry ej
      rw [ej] at o
      rw [em]
      exact o
  refine ⟨fun j l e => ?_, fun r m => ?_, fun j l e => ?_, fun j l f e forward => ?_,
    fun i j oi oj => h.oneOpen i j (opened i oi) (opened j oj), fun i j l m ei ej number => ?_⟩
  · obtain ⟨m, em, rfl⟩ := entry e
    exact h.rodCount j m em
  · obtain ⟨l, e, format⟩ := h.rodLot r m
    obtain ⟨l', e', same⟩ := kept e
    exact ⟨l', e', same.trans format⟩
  · obtain ⟨m, em, rfl⟩ := entry e
    rw [count]
    dsimp only
    split
    · rfl
    · exact h.referrers j m em
  · obtain ⟨m, em, rfl⟩ := entry e
    have target : lots[f].isSome = true ∧ f ≠ j := by
      dsimp only at forward
      split at forward
      · next same =>
        rcases onlyB with ⟨_, rfl, _⟩ | ⟨_, rfl, _⟩
        · cases forward
          exact ⟨by rw [eb]; rfl, fun q => ab (same.trans q.symm)⟩
        · cases forward
      · exact h.forward j m f em forward
    obtain ⟨l', el⟩ := Option.isSome_iff_exists.1 target.1
    obtain ⟨l'', el', _⟩ := kept el
    rw [el']
    exact ⟨rfl, target.2⟩
  · obtain ⟨l', el, rfl⟩ := entry ei
    obtain ⟨m', em, rfl⟩ := entry ej
    exact h.numbers i j l' m' el em number

theorem LotsOk.foldAt {rods : List RodRecord} (h : LotsOk rods lots) (unspent : Unspent lots)
    (free : la.forward = none) :
    LotsOk rods (foldAt lots a b) ∧ Unspent (foldAt lots a b) ∧ FormatsFrom lots (foldAt lots a b) := by
  rw [foldAt_eq ea eb ab]
  refine ⟨h.redirect ea eb ab (.inl ⟨free, rfl, rfl⟩), fun j l e => ?_, fun j l e => ?_⟩
  · obtain ⟨m, em, rfl⟩ := redirect_entry ea eb ab e
    have before := unspent j m em
    rw [Bool.eq_false_iff, Ne, isSpent_iff] at before ⊢
    by_cases same : b = j <;> simp_all
  · obtain ⟨m, em, rfl⟩ := redirect_entry ea eb ab e
    exact ⟨m, em, rfl⟩

theorem LotsOk.unfoldAt {rods : List RodRecord} (h : LotsOk rods lots) (unspent : Unspent lots)
    (forward : la.forward = some b) :
    LotsOk rods (unfoldAt lots a b) ∧ Unspent (unfoldAt lots a b) ∧
      FormatsFrom lots (unfoldAt lots a b) := by
  rw [unfoldAt_eq ea eb ab]
  have redirected := h.redirect ea eb ab (.inr ⟨forward, rfl, rfl⟩)
  have off : UnspentBut b (Machine.redirect lots a b la lb none (lb.referrers - 1)) := by
    intro j l ne e
    obtain ⟨m, em, rfl⟩ := redirect_entry ea eb ab e
    have before := unspent j m em
    rw [Bool.eq_false_iff, Ne, isSpent_iff] at before ⊢
    simpa only [if_neg (Ne.symm ne)] using before
  obtain ⟨ok, none, formats⟩ := redirected.freeIfSpent off
  refine ⟨ok, none, FormatsFrom.trans (fun j l e => ?_) formats⟩
  obtain ⟨m, em, rfl⟩ := redirect_entry ea eb ab e
  exact ⟨m, em, rfl⟩

end Redirect

/-! ## Rods come and go (R9) -/

section Recount
variable {rods rods' : List RodRecord} {lots : LotTable} (h : LotsOk rods lots)
include h

/-- One lot counts its rods anew. -/
theorem LotsOk.recount {i : Fin 32} {count : Nat → Nat}
    (own : ∀ l, lots[i] = some l → count l.rodCount = rodsOfLot rods' i)
    (others : ∀ j, j ≠ i → rodsOfLot rods' j = rodsOfLot rods j)
    (rodLot : ∀ r ∈ rods', ∃ l, lots[r.lot] = some l ∧ l.format = r.format) :
    LotsOk rods' (Machine.changeLot lots i fun l => { l with rodCount := count l.rodCount }) := by
  have entry (j : Fin 32) (l : Lot)
      (e : (Machine.changeLot lots i fun l => { l with rodCount := count l.rodCount })[j] = some l) :
      ∃ m, lots[j] = some m ∧
        l = { m with rodCount := if i = j then count m.rodCount else m.rodCount } := by
    rw [getElem_changeLot] at e
    split at e
    · next same =>
      obtain ⟨m, em, rfl⟩ := Option.map_eq_some_iff.1 e
      exact ⟨m, em, by rw [if_pos same]⟩
    · next ne => exact ⟨l, e, by rw [if_neg ne]⟩
  have used (j : Fin 32) :
      (Machine.changeLot lots i fun l => { l with rodCount := count l.rodCount })[j].isSome =
        lots[j].isSome := by
    rw [getElem_changeLot]; split <;> simp
  have forwards (j : Fin 32) :
      forwardOf (Machine.changeLot lots i fun l => { l with rodCount := count l.rodCount }) j =
        forwardOf lots j := by
    rw [forwardOf_changeLot]; split <;> rfl
  have opened (j : Fin 32) (o : isOpenLot
      (Machine.changeLot lots i fun l => { l with rodCount := count l.rodCount })[j] = true) :
      isOpenLot lots[j] = true := by
    rw [getElem_changeLot] at o
    split at o
    · cases e : lots[j] with
      | none => rw [e] at o; cases o
      | some l => rw [e] at o; exact o
    · exact o
  refine ⟨fun j l e => ?_, fun r m => ?_, fun j l e => ?_, fun j l f e forward => ?_,
    fun a b oa ob => h.oneOpen a b (opened a oa) (opened b ob), fun a b l m ea eb number => ?_⟩
  · obtain ⟨m, em, rfl⟩ := entry j l e
    dsimp only
    split
    · next same => subst same; exact own m em
    · next ne => rw [others j (Ne.symm ne)]; exact h.rodCount j m em
  · obtain ⟨l, e, format⟩ := rodLot r m
    rw [getElem_changeLot]
    split
    · rw [e]; exact ⟨_, rfl, format⟩
    · exact ⟨l, e, format⟩
  · obtain ⟨m, em, rfl⟩ := entry j l e
    rw [referrersOf_congr forwards]
    exact h.referrers j m em
  · obtain ⟨m, em, rfl⟩ := entry j l e
    rw [used]
    exact h.forward j m f em forward
  · obtain ⟨l', el, rfl⟩ := entry a l ea
    obtain ⟨m', em, rfl⟩ := entry b m eb
    exact h.numbers a b l' m' el em number

/-- Records that keep lot and format keep the table. -/
theorem LotsOk.congr (same : lotsOf rods' = lotsOf rods) : LotsOk rods' lots := by
  refine ⟨fun i l e => ?_, fun r m => ?_, h.referrers, h.forward, h.oneOpen, h.numbers⟩
  · rw [rodsOfLot_eq, same, ← rodsOfLot_eq]; exact h.rodCount i l e
  · have there : (r.lot, r.format) ∈ lotsOf rods := same ▸ List.mem_map_of_mem m
    obtain ⟨x, mx, ex⟩ := List.mem_map.1 there
    obtain ⟨l, e, format⟩ := h.rodLot x mx
    obtain ⟨lot, fmt⟩ := Prod.mk.inj ex
    exact ⟨l, (congrArg (fun k : Fin 32 => lots[k]) lot).symm.trans e, format.trans fmt⟩

end Recount

theorem insertRod_perm {r : RodRecord} {rods : List RodRecord} (fresh : findRod rods r.id = none) :
    (insertRod r rods).Perm (r :: rods) := by
  induction rods with
  | nil => exact .refl _
  | cons x xs ih =>
    have fresh := findRod_none.1 fresh
    unfold insertRod
    split
    · exact .refl _
    · split
      · next same => exact absurd same.symm (fresh x List.mem_cons_self)
      · refine ((ih ?_).cons x).trans (.swap r x xs)
        exact findRod_none.2 fun y m => fresh y (List.mem_cons_of_mem x m)

/-- A deletion takes out the one record of its ID. -/
theorem eraseRod_perm {rods : List RodRecord} (sorted : RodsSorted rods) {r : RodRecord} (m : r ∈ rods) :
    rods.Perm (r :: eraseRod r.id rods) := by
  have one : rods.filter (fun x => x.id == r.id) = [r] := by
    have nodup : rods.Nodup := sorted.imp fun lt e => by rw [e] at lt; exact Nat.lt_irrefl _ lt
    have all : ∀ x ∈ rods.filter (fun x => x.id == r.id), x = r := fun x mx => by
      obtain ⟨mx, e⟩ := List.mem_filter.1 mx
      exact sorted.unique mx m (by simpa using e)
    have here : r ∈ rods.filter (fun x => x.id == r.id) := List.mem_filter.2 ⟨m, by simp⟩
    exact List.perm_singleton.1
      ((List.perm_ext_iff_of_nodup (nodup.filter _) (List.nodup_singleton r)).2 fun x =>
        ⟨fun mx => List.mem_singleton.2 (all x mx), fun mx => List.mem_singleton.1 mx ▸ here⟩)
  have split := (List.filter_append_perm (fun x : RodRecord => x.id == r.id) rods).symm
  rw [one] at split
  exact split

/-! ## The invariant -/

/-- Every lot, and the running format, is of a defined format (R13, R68). -/
structure FormatsOk (s : State) : Prop where
  defined : ∀ (i : Fin 32) (l : Lot), s.registry.lots[i] = some l → (s.format l.format).isSome = true
  runningDefined : ∀ f, s.admission.running = some f → (s.format f).isSome = true

theorem lotInv_iff (s : State) :
    LotInv s ↔ LotsOk s.registry.rods s.registry.lots ∧ Unspent s.registry.lots ∧ FormatsOk s :=
  ⟨fun h => ⟨⟨h.rodCount, h.rodLot, h.referrers, h.forward, h.oneOpen, h.numbers⟩, h.noneSpent,
      h.defined, h.runningDefined⟩,
    fun ⟨ok, unspent, formats⟩ => ⟨ok.rodCount, ok.rodLot, ok.referrers, ok.forward, ok.oneOpen,
      ok.numbers, unspent, formats.defined, formats.runningDefined⟩⟩

/-- A change that keeps lots, lot and format of every record, and the defined formats. -/
theorem LotInv.congr {s t : State} (h : LotInv s) (rods : lotsOf t.registry.rods = lotsOf s.registry.rods)
    (lots : t.registry.lots = s.registry.lots)
    (format : ∀ n, (s.format n).isSome = true → (t.format n).isSome = true)
    (running : ∀ f, t.admission.running = some f → (s.format f).isSome = true) : LotInv t := by
  rw [lotInv_iff] at h ⊢
  obtain ⟨ok, unspent, formats⟩ := h
  refine ⟨by rw [lots]; exact ok.congr rods, by rw [lots]; exact unspent, fun i l e => ?_, fun f e => format f (running f e)⟩
  rw [lots] at e
  exact format _ (formats.defined i l e)

/-- The same where nothing of it changes. -/
theorem LotInv.same {s t : State} (h : LotInv s) (registry : t.registry = s.registry)
    (formats : t.authority.formats = s.authority.formats)
    (running : t.admission.running = s.admission.running) : LotInv t := by
  refine h.congr (by rw [registry]) (by rw [registry]) (fun n => ?_) fun f e => ?_
  · unfold State.format; rw [formats]; exact id
  · exact h.runningDefined f (running ▸ e)

/-- A change of the lot table alone, with formats that stood. -/
theorem LotInv.setLots {s : State} (h : LotInv s) {change : LotTable → LotTable}
    (after : LotsOk s.registry.rods (change s.registry.lots) ∧ Unspent (change s.registry.lots) ∧
      ∀ (j : Fin 32) (l : Lot), (change s.registry.lots)[j] = some l →
        (s.format l.format).isSome = true ∨
          ∃ m, s.registry.lots[j] = some m ∧ m.format = l.format) :
    LotInv (s.mapLots change) := by
  obtain ⟨ok, unspent, formats⟩ := after
  refine (lotInv_iff _).2 ⟨ok, unspent, fun i l e => ?_, h.runningDefined⟩
  rcases formats i l e with defined | ⟨m, em, same⟩
  · exact defined
  · exact same ▸ h.defined i m em

theorem LotInv.setLotsFrom {s : State} (h : LotInv s) {change : LotTable → LotTable}
    (after : LotsOk s.registry.rods (change s.registry.lots) ∧ Unspent (change s.registry.lots) ∧
      FormatsFrom s.registry.lots (change s.registry.lots)) : LotInv (s.mapLots change) :=
  h.setLots ⟨after.1, after.2.1, fun j l e => .inr (after.2.2 j l e)⟩

theorem LotInv.ok {s : State} (h : LotInv s) : LotsOk s.registry.rods s.registry.lots :=
  ((lotInv_iff s).1 h).1

theorem LotInv.unspent {s : State} (h : LotInv s) : Unspent s.registry.lots := h.noneSpent

/-- A rod deleted leaves its lot with one rod less, which may free it (R4, R9, R10). -/
theorem LotInv.deleteRod {s : State} (h : LotInv s) (sorted : RodsSorted s.registry.rods) (id : Nat) :
    LotInv (s.deleteRod id) := by
  unfold State.deleteRod
  split
  · exact h
  · next r known =>
    have perm := eraseRod_perm sorted (findRod_mem known)
    rw [findRod_id known] at perm
    have count (j : Fin 32) : rodsOfLot s.registry.rods j =
        rodsOfLot (eraseRod id s.registry.rods) j + if r.lot = j then 1 else 0 := by
      rw [rodsOfLot_perm perm, rodsOfLot_cons]
    have recounted : LotsOk (eraseRod id s.registry.rods)
        (changeLot s.registry.lots r.lot fun l => { l with rodCount := l.rodCount - 1 }) := by
      refine h.ok.recount (count := (· - 1)) (fun l e => ?_) (fun j ne => ?_) fun x m => ?_
      · have before := h.rodCount r.lot l e
        have := count r.lot
        rw [if_pos rfl] at this
        omega
      · have := count j
        rw [if_neg (Ne.symm ne)] at this
        omega
      · exact h.rodLot x (List.mem_of_mem_filter m)
    obtain ⟨ok, unspent, formats⟩ :=
      recounted.freeIfSpent (unspentBut_changeLot h.unspent r.lot _)
    refine (lotInv_iff _).2 ⟨ok, unspent, fun i l e => ?_, h.runningDefined⟩
    obtain ⟨m, em, same⟩ := ((formatsFrom_changeLot s.registry.lots r.lot
      (f := fun l => { l with rodCount := l.rodCount - 1 }) fun _ => rfl).trans formats) i l e
    exact same ▸ h.defined i m em

/-- A rod hung is one rod more of the OPEN lot (R70). -/
theorem LotInv.hang {s t : State} (h : LotInv s) {r : RodRecord} {l : Lot}
    (fresh : s.rod r.id = none) (opened : isOpenLot s.registry.lots[r.lot] = true)
    (lot : s.registry.lots[r.lot] = some l) (format : l.format = r.format)
    (rods : t.registry.rods = insertRod r s.registry.rods)
    (lots : t.registry.lots =
      changeLot s.registry.lots r.lot fun l => { l with rodCount := l.rodCount + 1 })
    (formats : t.authority.formats = s.authority.formats)
    (running : t.admission.running = some (s.admission.running.getD l.format)) : LotInv t := by
  have count (j : Fin 32) : rodsOfLot (insertRod r s.registry.rods) j =
      rodsOfLot s.registry.rods j + if r.lot = j then 1 else 0 := by
    rw [rodsOfLot_perm (insertRod_perm fresh), rodsOfLot_cons]
  have recounted : LotsOk (insertRod r s.registry.rods)
      (changeLot s.registry.lots r.lot fun l => { l with rodCount := l.rodCount + 1 }) := by
    refine h.ok.recount (count := (· + 1)) (fun x e => ?_) (fun j ne => ?_) fun x m => ?_
    · rw [count, if_pos rfl, h.rodCount r.lot x e]
    · rw [count, if_neg (Ne.symm ne), Nat.add_zero]
    · rcases mem_insertRod m with rfl | m
      · exact ⟨l, lot, format⟩
      · exact h.rodLot x m
  have same (n : Nat) : t.format n = s.format n := by unfold State.format; rw [formats]
  refine (lotInv_iff t).2 ⟨rods ▸ lots ▸ recounted, ?_, fun i x e => ?_, fun f e => ?_⟩
  · rw [lots]
    refine unspent_changeLot h.unspent r.lot fun x e _ => ?_
    rw [Bool.eq_false_iff, Ne, isSpent_iff]
    rintro ⟨_, count, _⟩
    exact Nat.succ_ne_zero _ count
  · rw [lots] at e
    obtain ⟨m, em, fm⟩ := formatsFrom_changeLot s.registry.lots r.lot
      (f := fun l => { l with rodCount := l.rodCount + 1 }) (fun _ => rfl) i x e
    rw [same, ← fm]
    exact h.defined i m em
  · rw [same]
    rw [running] at e
    cases known : s.admission.running with
    | none =>
      rw [known] at e
      cases e
      exact h.defined r.lot l lot
    | some g =>
      rw [known] at e
      cases e
      exact h.runningDefined g known

end Sys2Proof.Machine
end

section
/-! PROOFS. The lot table, concluded: every elementary change keeps it. -/

namespace Sys2Proof.Machine

/-- The lot table, the format table and the running format stay. -/
structure KeepsLots (s t : State) : Prop where
  lots : t.registry.lots = s.registry.lots
  formats : t.authority.formats = s.authority.formats
  running : t.admission.running = s.admission.running

theorem KeepsLots.refl (s : State) : KeepsLots s s := ⟨rfl, rfl, rfl⟩

theorem KeepsLots.trans {a b c : State} (h : KeepsLots a b) (k : KeepsLots b c) : KeepsLots a c :=
  ⟨k.lots.trans h.lots, k.formats.trans h.formats, k.running.trans h.running⟩

theorem LotInv.lead {s t : State} (h : LotInv s) (table : RodTable s.registry.rods)
    (rods : RodsLead s.registry.rods t.registry.rods) (keep : KeepsLots s t) : LotInv t := by
  refine h.congr (rods table).2.lots keep.lots (fun n defined => ?_) fun f e => ?_
  · unfold State.format at defined ⊢; rw [keep.formats]; exact defined
  · rw [keep.running] at e; exact h.runningDefined f e

theorem LotInv.keep {s t : State} (h : LotInv s) (rods : t.registry.rods = s.registry.rods)
    (keep : KeepsLots s t) : LotInv t :=
  h.congr (by rw [rods]) keep.lots
    (fun n defined => by unfold State.format at defined ⊢; rw [keep.formats]; exact defined)
    fun f e => by rw [keep.running] at e; exact h.runningDefined f e

/-! ## What keeps the lots -/

theorem bindChoice_keepsLots (s : State) : KeepsLots s s.bindChoice.1 := by
  refine ⟨?_, by simp, (bindChoice_keeps s).2⟩
  unfold State.bindChoice
  split <;> rfl

theorem beginStep_keepsLots (s : State) : KeepsLots s s.beginStep.1 := by
  refine ⟨?_, by simp, (beginStep_keeps_admission s).2⟩
  unfold State.beginStep
  split
  · rfl
  · exact (bindChoice_keepsLots s).lots

theorem endSettling_keepsLots (s : State) : KeepsLots s s.endSettling.1 := by
  refine ⟨?_, by simp, (endSettling_keeps_admission s).2⟩
  unfold State.endSettling
  split
  · exact (beginStep_keepsLots (s.mapTrack fun t => { t with owed := false })).lots
  · rfl

theorem finishShift_keepsLots (s : State) : KeepsLots s s.finishShift.1 := by
  refine ⟨?_, by simp, (finishShift_keeps_admission s).2⟩
  unfold State.finishShift State.beginSettling
  split
  · split
    · exact (endSettling_keepsLots s).lots
    · rfl
  all_goals rfl

theorem cadenceEffect_keepsLots (s : State) : KeepsLots s s.cadenceEffect.1 := by
  unfold State.cadenceEffect
  split
  · exact beginStep_keepsLots s
  all_goals exact ⟨rfl, rfl, rfl⟩

theorem loseClaim_keepsLots (s : State) (k : ClaimKind) : KeepsLots s (s.loseClaim k) := by
  refine ⟨by simp, ?_, by rw [loseClaim_admission]⟩
  cases k with
  | reconfigure => rfl
  | changeover => unfold State.loseClaim; simp
  | purge =>
    unfold State.loseClaim State.cancelDrain
    dsimp only
    split <;> rfl

theorem loseClaimOf_keepsLots (s : State) (link : Link) (k : ClaimKind) :
    KeepsLots s (s.loseClaimOf link k) := by
  unfold State.loseClaimOf
  split
  · exact loseClaim_keepsLots s k
  · exact .refl s

theorem resetLink_keepsLots (s : State) (link : Link) : KeepsLots s (s.resetLink link) := by
  have lost := ((loseClaimOf_keepsLots ((s.changeLink link LinkChannel.afterBreak).emptyNotes link)
    link .changeover).trans (loseClaimOf_keepsLots _ link .purge)).trans
      (loseClaimOf_keepsLots _ link .reconfigure)
  exact ⟨lost.lots, lost.formats, lost.running⟩

theorem beginDrain_keepsLots (s : State) : KeepsLots s s.beginDrain := by
  refine ⟨by simp, ?_, ?_⟩ <;>
  · unfold State.beginDrain State.checkDrain
    dsimp only
    split
    · split <;> rfl
    · rfl

theorem checkDrain_formats (s : State) : s.checkDrain.authority.formats = s.authority.formats := by
  unfold State.checkDrain
  split <;> rfl

theorem stopLine_keepsLots (s : State) : KeepsLots s s.stopLine := by
  refine ⟨by simp, ?_, by simp⟩
  unfold State.stopLine
  rw [checkDrain_formats]
  rfl

theorem linkMove_keepsLots {s t : State} (move : LinkMove s t) : KeepsLots s t := by
  cases move with
  | channel link f class_ => exact ⟨rfl, rfl, rfl⟩
  | event c => exact ⟨by simp, by simp, by simp⟩

/-! ## The shift completes a changeover to a defined format (R81) -/

theorem LotInv.rod_defined {s : State} (h : LotInv s) {id : Nat} {r : RodRecord}
    (known : s.rod id = some r) : (s.format r.format).isSome = true := by
  obtain ⟨l, e, format⟩ := h.rodLot r (findRod_mem known)
  rw [← format]
  exact h.defined r.lot l e

theorem LotInv.completedFormat_defined {s : State} (h : LotInv s) {p : Nat}
    (completed : s.completedFormat = some p) : (s.format p).isSome = true := by
  unfold State.completedFormat at completed
  split at completed
  · next id _ _ =>
    split at completed
    · next format =>
      cases completed
      obtain ⟨r, known, rfl⟩ := Option.map_eq_some_iff.1 format
      exact h.rod_defined known
    · cases completed
  · cases completed

theorem LotInv.shift {s : State} (h : LotInv s) (table : RodTable s.registry.rods) :
    LotInv s.shift.1 := by
  refine h.congr (shift_rods_lead s table).2.lots (shift_lots s) (fun n defined => ?_) fun f e => ?_
  · unfold State.format at defined ⊢; rw [shift_authority]; exact defined
  · rw [shift_admission_eq] at e
    rcases Option.or_eq_some_iff.1 e with completed | ⟨_, running⟩
    · exact h.completedFormat_defined completed
    · exact h.runningDefined f running

theorem LotInv.completeSuspended {s : State} (h : LotInv s) (table : RodTable s.registry.rods) :
    LotInv s.completeSuspended.1 :=
  (h.shift table).lead (shift_rods_lead s table).1 (markLate_rods s.shift.1) ⟨rfl, rfl, rfl⟩

/-! ## The kinds of changes -/

theorem LotInv.lineMove {s t : State} (move : LineMove s t) (table : RodTable s.registry.rods)
    (h : LotInv s) : LotInv t := by
  have kept (keep : KeepsLots s t) : LotInv t := h.lead table (lineMove_rods move) keep
  cases move with
  | break_ link => exact kept (resetLink_keepsLots s link)
  | shift advancing =>
    exact (h.shift table).lead (shift_rods_lead s table).1 (finishShift_rods s.shift.1)
      (finishShift_keepsLots s.shift.1)
  | late suspended => exact h.completeSuspended table
  | cadence due =>
    have keep := cadenceEffect_keepsLots (s.mapTrack fun t => { t with cadenceCount := 0 })
    exact kept ⟨keep.lots, keep.formats, keep.running⟩
  | settle due => exact kept (endSettling_keepsLots s)
  | _ => exact kept ⟨rfl, rfl, rfl⟩

theorem eq_of_formatIndex {n : Nat} {i : Fin 16} (h : formatIndex n = some i) : n = i.val + 1 := by
  unfold formatIndex at h
  split at h
  · cases h
    dsimp only
    omega
  · cases h

/-- A format entry rewritten, or removed where nothing is of it (R159). -/
theorem LotInv.setFormat {s t : State} (h : LotInv s) (i : Fin 16) (entry : Option FormatEntry)
    (formats : t.authority.formats = s.authority.formats.set i entry)
    (registry : t.registry = s.registry) (admission : t.admission = s.admission)
    (unused : entry = none → s.authority.formats[i].isSome = true →
      s.admission.running ≠ some (i.val + 1) ∧ formatInUse s.registry.lots (i.val + 1) = false) :
    LotInv t := by
  have stays (n : Nat) (defined : (s.format n).isSome = true)
      (apart : entry = none → s.authority.formats[i].isSome = true → n ≠ i.val + 1) :
      (t.format n).isSome = true := by
    unfold State.format at defined ⊢
    cases index : formatIndex n with
    | none => rw [index] at defined; cases defined
    | some j =>
      rw [index, Option.bind_some] at defined
      rw [Option.bind_some, formats, Fin.getElem_fin, Vector.getElem_set]
      split
      · next same =>
        have same : i = j := Fin.ext same
        subst same
        cases e : entry with
        | some _ => rfl
        | none => exact absurd (eq_of_formatIndex index) (apart e defined)
      · exact defined
  have numbered (l : Lot) (k : Fin 32) (e : s.registry.lots[k] = some l)
      (free : formatInUse s.registry.lots (i.val + 1) = false) : l.format ≠ i.val + 1 := fun same => by
    have all := List.any_eq_false.1 free k (List.mem_finRange k)
    rw [e] at all
    exact all (decide_eq_true same)
  obtain ⟨ok, unspent, _⟩ := (lotInv_iff s).1 h
  refine (lotInv_iff t).2 ⟨by rw [registry]; exact ok, by rw [registry]; exact unspent,
    fun k l e => ?_, fun f e => ?_⟩
  · rw [registry] at e
    exact stays _ (h.defined k l e) fun none some => numbered l k e (unused none some).2
  · rw [admission] at e
    exact stays f (h.runningDefined f e) fun none some same =>
      (unused none some).1 (same ▸ e)

theorem LotInv.confirmHead {s : State} (h : LotInv s) (table : RodTable s.registry.rods) (id : Nat) :
    LotInv (s.confirmHead id).1 := by
  refine (h.deleteRod table.1 id).lead (deleteRod_rods s id table).1 (confirmHead_rods s id) ?_
  unfold State.confirmHead
  dsimp only
  split
  · have keep := bindChoice_keepsLots { s.deleteRod id with exitQueue := s.exitQueue.tail }
    exact ⟨keep.lots, keep.formats, keep.running⟩
  all_goals exact ⟨rfl, rfl, rfl⟩

theorem hangRod_lots (s : State) (id : Nat) (i : Fin 32) (format : Nat) :
    (s.hangRod id i format).registry.lots =
      changeLot s.registry.lots i fun l => { l with rodCount := l.rodCount + 1 } := by
  unfold State.hangRod
  dsimp only
  split <;> rfl

theorem LotInv.effect {link : Link} {s t : State} (e : Effect link s t)
    (table : RodTable s.registry.rods) (h : LotInv s) : LotInv t := by
  cases e with
  | openLot defined fresh lowest =>
    obtain ⟨ok, unspent, formats⟩ := h.ok.openLotAt h.unspent fresh lowest
    exact h.setLots ⟨ok, unspent, fun j l e =>
      (formats j l e).imp_left fun same => by rw [same]; exact defined⟩
  | closeLot opened => exact h.setLotsFrom (h.ok.closeLotAt h.unspent _)
  | writeHeld i held =>
    exact h.setLotsFrom ⟨h.ok.changeLot i (fun _ => ⟨rfl, rfl, rfl, rfl, rfl⟩) fun _ => id,
      unspent_changeLot h.unspent i fun _ _ => id, formatsFrom_changeLot _ i fun _ => rfl⟩
  | foldLot source free used apart =>
    obtain ⟨target, found⟩ := Option.isSome_iff_exists.1 used
    exact h.setLotsFrom (h.ok.foldAt source found apart h.unspent free)
  | unfoldLot forward =>
    obtain ⟨source, found, next⟩ := Option.bind_eq_some_iff.1 forward
    obtain ⟨used, apart⟩ := h.forward _ source _ found next
    obtain ⟨target, foundTarget⟩ := Option.isSome_iff_exists.1 used
    exact h.setLotsFrom (h.ok.unfoldAt found foundTarget apart.symm h.unspent next)
  | @hang id i l positive small room fresh opened lot =>
    exact h.hang (r := newRod id i l.format s.track.stepNumber) fresh (openLotIndex_some opened) lot rfl
      (hangRod_rods s id i l.format) (hangRod_lots s id i l.format) (by simp)
      (by rw [hangRod_admission])
  | @withdraw id r known staged =>
    exact (h.deleteRod table.1 id).keep rfl ⟨rfl, by simp, by simp⟩
  | start stopped locked long => exact h.keep rfl ⟨rfl, rfl, rfl⟩
  | stop moving rest => exact h.keep (by simp) (stopLine_keepsLots s)
  | confirmStep suspended => exact h.completeSuspended table
  | abandonStep suspended =>
    refine h.lead table (abandonSuspended_rods s) ⟨?_, by simp, ?_⟩ <;>
    · unfold State.abandonSuspended; split <;> rfl
  | take head known =>
    exact h.lead table (.update _ (revise_id _) (follows_revise _)) ⟨rfl, rfl, rfl⟩
  | confirm head => exact h.confirmHead table _
  | climate taken => exact h.keep (by simp) ⟨by simp, by simp, by simp⟩
  | @trim i z temperature humidity format =>
    refine h.setFormat i (s.authority.formats[i].map _) rfl rfl rfl fun none some => ?_
    rw [Option.map_eq_none_iff] at none
    rw [none] at some
    cases some
  | @claim k permitted condition =>
    refine h.keep (by simp) ⟨by simp, ?_, by simp⟩
    cases k <;> rfl
  | @release k held => exact h.keep (by simp) (loseClaim_keepsLots s k)
  | purge held moving => exact h.keep (by simp) (beginDrain_keepsLots s)
  | @format i entry unlocked unused =>
    exact h.setFormat i entry rfl rfl rfl fun none _ => unused none
  | interval v k unlocked => exact h.keep (by simp) ⟨by simp, by simp, by simp⟩
  | _ => exact h.keep rfl ⟨rfl, rfl, rfl⟩

theorem lotInv_of_reset {s : State} (rods : s.registry.rods = []) (lots : ∀ i : Fin 32, s.registry.lots[i] = none)
    (running : s.admission.running = none) : LotInv s := by
  constructor <;> simp [rods, lots, running, isOpenLot]

/-- Settles O11: the rods of the table keep their lot and format, so that the counts follow the rods
that come and go, and every operation on the lots keeps the table. -/
theorem stepKeepsLots : Obligations.StepKeepsLots := by
  intro s t rods lots e
  exact (step_keeps (P := fun s => RodTable s.registry.rods ∧ LotInv s)
    (fun _ _ move h => ⟨by rw [linkMove_registry move]; exact h.1,
      h.2.keep (by rw [linkMove_registry move]) (linkMove_keepsLots move)⟩)
    (fun _ _ h => ⟨h.1, h.2.keep rfl ⟨rfl, rfl, rfl⟩⟩)
    (fun _ _ _ own h => ⟨(effect_rods own h.1).1, h.2.effect own h.1⟩)
    (fun _ _ move h => ⟨(lineMove_rods move h.1).1, h.2.lineMove move h.1⟩)
    (fun s _ => ⟨(empty_rods s.registry.rods).1, lotInv_of_reset rfl (fun i => by simp [State.deviceReset, State.reset]) rfl⟩)
    ⟨(rodInv_iff s).1 rods, lots⟩ e).2

end Sys2Proof.Machine
end

section
/-! PROOFS. Every command completes, with the queue and the classes of the links as they were (R174). -/

namespace Sys2Proof.Machine

/-- The queue and the class of every link stay. -/
structure KeepsLinks (s t : State) : Prop where
  pending : t.pending = s.pending
  class_ : ∀ l : Link, t.links[l].class_ = s.links[l].class_

theorem KeepsLinks.refl (s : State) : KeepsLinks s s := ⟨rfl, fun _ => rfl⟩

theorem KeepsLinks.trans {a b c : State} (h : KeepsLinks a b) (k : KeepsLinks b c) : KeepsLinks a c :=
  ⟨k.pending.trans h.pending, fun l => (k.class_ l).trans (h.class_ l)⟩

theorem KeepsLinks.of_links {s t : State} (pending : t.pending = s.pending) (links : t.links = s.links) :
    KeepsLinks s t := ⟨pending, fun l => by rw [links]⟩

theorem changeLink_keepsLinks (s : State) (link : Link) {f : LinkChannel → LinkChannel}
    (class_ : ∀ c, (f c).class_ = c.class_) : KeepsLinks s (s.changeLink link f) :=
  ⟨rfl, changeLink_class s link class_⟩

theorem linkMove_keepsLinks {s t : State} (move : LinkMove s t) : KeepsLinks s t := by
  cases move with
  | channel link f class_ => exact changeLink_keepsLinks s link class_
  | event c => exact .of_links (by simp) (by simp)

theorem lineMove_keepsLinks {s t : State} (move : LineMove s t) : KeepsLinks s t := by
  cases move with
  | break_ link =>
    have kept := changeLink_keepsLinks s link (f := LinkChannel.afterBreak) fun _ => rfl
    exact ⟨by simp [State.resetLink], fun l => by
      rw [← kept.class_ l]; simp [State.resetLink]⟩
  | exposure due => exact .of_links rfl rfl
  | count => exact ⟨rfl, fun l => by simp [State.countTick]⟩
  | _ => exact .of_links (by simp) (by simp)

theorem effect_keepsLinks {link : Link} {s t : State} (e : Effect link s t) : KeepsLinks s t := by
  cases e with
  | channel f class_ => exact changeLink_keepsLinks s link class_
  | _ => exact .of_links (by simp) (by simp)

theorem exec_keepsLinks {c : Instr} (noReset : ∀ straps, c ≠ .deviceReset straps) {s t : State}
    (e : exec c s = .next t) : KeepsLinks s t := by
  have link (u v : State) (move : LinkMove u v) (h : KeepsLinks s u) : KeepsLinks s v :=
    h.trans (linkMove_keepsLinks move)
  cases kind : lineCommand c with
  | false =>
    obtain ⟨u, v, _, before, own, after⟩ := exec_served kind e
    exact linkMoves_keep link after
      ((linkMoves_keep link before (.refl s)).trans (effect_keepsLinks own))
  | true =>
    exact lineMoves_keep link (fun u v move h => h.trans (lineMove_keepsLinks move))
      (line_moves kind noReset e) (.refl s)

/-- A command faults and is refused in no state. -/
theorem exec_completes (c : Instr) (s : State) : ∃ t, exec c s = .next t := by
  cases request : replyOf c with
  | some reply =>
    obtain ⟨link, may, body⟩ := reply
    rcases exec_of_replyOf request s with next | ⟨_, _, next⟩ <;> exact ⟨_, next⟩
  | none =>
    cases kind : lineCommand c with
    | true =>
      cases c <;> first | cases kind; done | skip
      case advanceDone =>
        change ∃ t, execAdvanceDone s = .next t
        unfold execAdvanceDone
        split <;> exact ⟨_, rfl⟩
      case baseTick => exact ⟨_, exec_baseTick s⟩
      all_goals exact ⟨_, rfl⟩
    | false =>
      rcases linkEvent_cases request kind with ⟨link, rfl⟩ | ⟨link, rfl⟩ | ⟨link, error, rfl⟩ |
        ⟨link, rfl⟩ | ⟨link, rfl⟩ | ⟨link, rfl⟩ | ⟨link, rfl⟩
      · change ∃ t, execStreamRecord link s = .next t
        unfold execStreamRecord
        split <;> exact ⟨_, rfl⟩
      · change ∃ t, execTransmitComplete link s = .next t
        unfold execTransmitComplete
        split <;> exact ⟨_, rfl⟩
      · change ∃ t, execFrameDiscarded link error s = .next t
        unfold execFrameDiscarded
        repeat' split
        all_goals exact ⟨_, rfl⟩
      · exact ⟨_, rfl⟩
      · change ∃ t, execContention link s = .next t
        unfold execContention
        split <;> exact ⟨_, rfl⟩
      · change ∃ t, execOpeningMarkReceived link s = .next t
        unfold execOpeningMarkReceived
        split <;> exact ⟨_, rfl⟩
      · exact ⟨_, rfl⟩

/-- Settles O2: every elementary change keeps the queue and the classes, and a device reset keeps the
queue. -/
theorem everyCommandCompletes : Obligations.EveryCommandCompletes := by
  intro c s
  obtain ⟨t, e⟩ := exec_completes c s
  refine ⟨t, e, ?_, fun noReset => (exec_keepsLinks noReset e).class_⟩
  by_cases isReset : ∃ straps, c = .deviceReset straps
  · obtain ⟨straps, rfl⟩ := isReset
    cases e
    rfl
  · exact (exec_keepsLinks (fun straps q => isReset ⟨straps, q⟩) e).pending

/-- Settles O1, by the definition of a step. -/
theorem stepRunsTheFrontCommand : Obligations.StepRunsTheFrontCommand := by
  refine ⟨fun s c rest => rfl, fun s empty => ?_⟩
  unfold step
  rw [empty]

end Sys2Proof.Machine
end

section
/-! PROOFS. The configuration under the lock (R50, R156): every elementary change but the edits keeps
it, and the edits meet an open lock. -/

namespace Sys2Proof.Machine

/-- The track length and the three interval settings of the track controller (R22, R160). -/
def TrackControl.settings (t : TrackControl) : Nat × Nat × Nat × Nat :=
  (t.length, t.settleInterval, t.advanceLimit, t.exitWaitLimit)

/-- A format entry without its setpoints, which TRIM_SETPOINT may write on a moving line (R111). -/
def FormatEntry.withoutSetpoints (f : FormatEntry) : FormatEntry :=
  { f with schedules := f.schedules.map (ZoneSchedule.trim 0 0) }

/-- The configuration that the lock covers stays (R156). -/
structure KeepsConfig (s t : State) : Prop where
  settings : t.track.settings = s.track.settings
  interval : t.exposure.interval = s.exposure.interval
  staleness : t.zones.stalenessLimit = s.zones.stalenessLimit
  windows : ∀ z : Zone, sameWindow t.zones.channels[z] s.zones.channels[z]
  formats : ∀ i : Fin 16, t.authority.formats[i].map FormatEntry.withoutSetpoints =
    s.authority.formats[i].map FormatEntry.withoutSetpoints

theorem KeepsConfig.refl (s : State) : KeepsConfig s s :=
  ⟨rfl, rfl, rfl, fun _ => ⟨rfl, rfl⟩, fun _ => rfl⟩

theorem KeepsConfig.trans {a b c : State} (h : KeepsConfig a b) (k : KeepsConfig b c) :
    KeepsConfig a c :=
  ⟨k.settings.trans h.settings, k.interval.trans h.interval, k.staleness.trans h.staleness,
    fun z => ⟨(k.windows z).1.trans (h.windows z).1, (k.windows z).2.trans (h.windows z).2⟩,
    fun i => (k.formats i).trans (h.formats i)⟩

/-- A change that keeps exposure unit, zone monitor and format table. -/
theorem KeepsConfig.of_track {s t : State} (settings : t.track.settings = s.track.settings)
    (exposure : t.exposure = s.exposure) (zones : t.zones = s.zones)
    (formats : t.authority.formats = s.authority.formats) : KeepsConfig s t :=
  ⟨settings, by rw [exposure], by rw [zones], fun z => by rw [zones]; exact ⟨rfl, rfl⟩,
    fun i => by rw [formats]⟩

/-- A change of the channels that keeps their windows. -/
theorem KeepsConfig.of_channels {s t : State} (settings : t.track.settings = s.track.settings)
    (interval : t.exposure.interval = s.exposure.interval)
    (staleness : t.zones.stalenessLimit = s.zones.stalenessLimit)
    (windows : ∀ z : Zone, sameWindow t.zones.channels[z] s.zones.channels[z])
    (formats : t.authority.formats = s.authority.formats) : KeepsConfig s t :=
  ⟨settings, interval, staleness, windows, fun i => by rw [formats]⟩

/-! ## The settings of the track controller -/

@[simp] theorem addCause_settings (k : Cause) (t : TrackControl) :
    (t.addCause k).settings = t.settings := by
  simp [TrackControl.settings]

theorem beginStep_settings (s : State) : s.beginStep.1.track.settings = s.track.settings := by
  rcases beginStep_track s with ⟨n, e⟩ | ⟨n, e⟩ <;> rw [e] <;> rfl

theorem endSettling_settings (s : State) : s.endSettling.1.track.settings = s.track.settings := by
  unfold State.endSettling
  split
  · exact beginStep_settings (s.mapTrack fun t => { t with owed := false })
  · rfl

theorem finishShift_settings (s : State) : s.finishShift.1.track.settings = s.track.settings := by
  unfold State.finishShift State.beginSettling
  split
  · split
    · exact endSettling_settings s
    · rfl
  all_goals rfl

theorem shift_settings (s : State) : s.shift.1.track.settings = s.track.settings := by
  rw [shift_track]
  split <;> simp [TrackControl.settings, TrackControl.length]

theorem cadenceEffect_settings (s : State) : s.cadenceEffect.1.track.settings = s.track.settings := by
  unfold State.cadenceEffect
  split
  · exact beginStep_settings s
  all_goals rfl

theorem checkDrain_settings (s : State) : s.checkDrain.track.settings = s.track.settings := by
  unfold State.checkDrain
  split <;> rfl

theorem holdLineRises_settings (t : TrackControl) : t.holdLineRises.settings = t.settings := by
  unfold TrackControl.holdLineRises
  split
  · rfl
  · exact addCause_settings _ _

theorem trackTick_settings (t : TrackControl) : t.tick.settings = t.settings := by
  unfold TrackControl.tick
  split <;> rfl

/-! ## The channels -/

theorem mapChannels_keepsConfig (s : State) {f : Zone → ZoneChannel → ZoneChannel}
    (window : ∀ z c, sameWindow (f z c) c) : KeepsConfig s (s.mapChannels f) :=
  .of_channels rfl rfl rfl (fun z => by simpa using window z _) rfl

theorem recomputeZones_keepsConfig (s : State) : KeepsConfig s s.recomputeZones := by
  refine mapChannels_keepsConfig s fun z c => ?_
  split
  · exact switch_window _ _
  · exact ⟨rfl, rfl⟩

theorem shift_keepsConfig (s : State) : KeepsConfig s s.shift.1 := by
  refine .of_channels (shift_settings s) (by simp) (by rw [shift_zones]) (fun z => ?_)
    (by rw [shift_authority])
  rw [shift_zones]
  simp only [Fin.getElem_fin, Vector.getElem_ofFn]
  split
  · exact switch_window _ _
  · exact ⟨rfl, rfl⟩

theorem changeChannel_keepsConfig (s : State) (z : Zone) {f : ZoneChannel → ZoneChannel}
    (window : sameWindow (f s.zones.channels[z]) s.zones.channels[z]) :
    KeepsConfig s (s.changeChannel z f) := by
  refine .of_channels rfl rfl rfl (fun w => ?_) rfl
  rw [changeChannel_zones, getElem_set_channel]
  split
  · next same => subst same; exact window
  · exact ⟨rfl, rfl⟩

theorem flagGoverned_keepsConfig (s : State) (format : Nat) : KeepsConfig s (s.flagGoverned format) := by
  refine mapChannels_keepsConfig s fun z c => ?_
  split <;> exact ⟨rfl, rfl⟩

/-! ## The kinds of changes -/

theorem linkMove_keepsConfig {s t : State} (move : LinkMove s t) : KeepsConfig s t := by
  cases move with
  | channel link f class_ => exact .of_track rfl rfl rfl rfl
  | event c =>
    refine .of_track ?_ (by simp) (by simp) (by simp)
    rw [route_track]
    split
    · exact addCause_settings _ _
    · rfl

theorem completeSuspended_keepsConfig (s : State) : KeepsConfig s s.completeSuspended.1 :=
  (shift_keepsConfig s).trans (.of_track rfl rfl rfl rfl)

theorem lineMove_keepsConfig {s t : State} (move : LineMove s t) : KeepsConfig s t := by
  cases move with
  | break_ link =>
    exact .of_track (by simp [State.resetLink]) (by simp [State.resetLink]) (by simp [State.resetLink])
      (resetLink_keepsLots s link).formats
  | holdRises => exact .of_track (holdLineRises_settings s.track) rfl rfl rfl
  | holdFalls => exact .of_track rfl rfl rfl rfl
  | doneLine level => exact .of_track rfl rfl rfl rfl
  | shift advancing =>
    exact (shift_keepsConfig s).trans
      (.of_track (t := s.shift.1.finishShift.1) (finishShift_settings s.shift.1) (by simp) (by simp)
        (by simp))
  | late suspended => exact completeSuspended_keepsConfig s
  | cadence due =>
    exact .of_track (cadenceEffect_settings (s.mapTrack fun t => { t with cadenceCount := 0 }))
      (by simp) (by simp) (by simp)
  | settle due => exact .of_track (endSettling_settings s) (by simp) (by simp) (by simp)
  | suspend due => exact .of_track rfl rfl rfl rfl
  | withdrawStep due => exact .of_track rfl rfl rfl rfl
  | exposure due =>
    refine KeepsConfig.trans (b := { s with exposure := { s.exposure with
      counter := 0, tick := s.exposure.tick + 1 } }.mapRods fun rods => rods.map s.exposeRod) ?_
      (mapChannels_keepsConfig _ fun _ => advanceStale_window _)
    exact .of_channels rfl rfl rfl (fun _ => ⟨rfl, rfl⟩) rfl
  | count =>
    refine .of_channels (trackTick_settings s.track) ?_ rfl (fun _ => ⟨rfl, rfl⟩) rfl
    change s.exposure.tickCounter.interval = s.exposure.interval
    unfold Exposure.tickCounter
    split <;> rfl

/-- The two setpoints that TRIM_SETPOINT writes are all that it changes of an entry (R111). -/
theorem trim_withoutSetpoints (z : Zone) (temperature humidity : Nat) (f : FormatEntry) :
    (f.trim z temperature humidity).withoutSetpoints = f.withoutSetpoints := by
  have schedules : (f.trim z temperature humidity).schedules.map (ZoneSchedule.trim 0 0) =
      f.schedules.map (ZoneSchedule.trim 0 0) := by
    refine Vector.ext fun i h => ?_
    simp only [Vector.getElem_map, FormatEntry.trim, Vector.getElem_set]
    split
    · next same => subst same; rfl
    · rfl
  unfold FormatEntry.withoutSetpoints
  rw [schedules]
  rfl

theorem trimSetpoint_keepsConfig (s : State) (i : Fin 16) (z : Zone) (temperature humidity : Nat) :
    KeepsConfig s (s.trimSetpoint i z temperature humidity) := by
  refine ⟨rfl, rfl, rfl, fun _ => ⟨rfl, rfl⟩, fun j => ?_⟩
  simp only [State.trimSetpoint, Fin.getElem_fin, Vector.getElem_set]
  split
  · next same =>
    rw [Option.map_map]
    simp only [← same]
    congr 1
    funext f
    exact trim_withoutSetpoints z temperature humidity f
  · rfl

/-- A change of an owning block on a locked part. -/
theorem effect_keepsConfig {link : Link} {s t : State} (locked : s.authority.lock = true)
    (e : Effect link s t) : KeepsConfig s t := by
  have edit (unlocked : s.authority.lock = false) : KeepsConfig s t := by
    rw [locked] at unlocked; cases unlocked
  cases e with
  | @hang id i l =>
    unfold State.hangRod
    dsimp only
    split
    · refine KeepsConfig.trans ?_ (recomputeZones_keepsConfig _)
      exact .of_track rfl rfl rfl rfl
    · exact .of_track rfl rfl rfl rfl
  | start =>
    refine .of_track ?_ rfl rfl rfl
    change s.track.start.settings = s.track.settings
    unfold TrackControl.start
    dsimp only
    split
    · exact addCause_settings _ _
    · rfl
  | hold moving => exact .of_track (addCause_settings _ _) rfl rfl rfl
  | stop moving rest =>
    exact .of_track (checkDrain_settings _) (by simp) (by simp) (stopLine_keepsLots s).formats
  | confirmStep suspended => exact completeSuspended_keepsConfig s
  | abandonStep suspended =>
    refine .of_track ?_ (by simp) (by simp) (by simp)
    unfold State.abandonSuspended
    split <;> rfl
  | @confirm id rest head =>
    refine .of_track ?_ (by simp) (by simp) (by simp)
    unfold State.confirmHead
    dsimp only
    split <;> simp [State.enterAdvancing, TrackControl.settings, TrackControl.length]
  | resumeHeld held notSuspended => exact .of_track rfl rfl rfl rfl
  | resumeHolding holding => exact .of_track rfl rfl rfl rfl
  | setCadence compare => exact .of_track rfl rfl rfl rfl
  | setpoint z => exact changeChannel_keepsConfig s z ⟨rfl, rfl⟩
  | @climate z r taken =>
    exact KeepsConfig.trans (b := s.offerCapture z r) (.of_track (by simp) (by simp) (by simp) (by simp))
      (changeChannel_keepsConfig _ z ⟨rfl, rfl⟩)
  | trim i z temperature humidity format =>
    exact (trimSetpoint_keepsConfig s i z temperature humidity).trans (flagGoverned_keepsConfig _ format)
  | @claim k permitted condition =>
    refine .of_track (by simp) (by simp) (by simp) ?_
    cases k <;> rfl
  | @release k held =>
    exact .of_track (by simp) (by simp) (by simp) (loseClaim_keepsLots s k).formats
  | purge held moving =>
    refine .of_track ?_ (by simp) (by simp) (beginDrain_keepsLots s).formats
    unfold State.beginDrain
    dsimp only
    split
    · exact checkDrain_settings _
    · rfl
  | trackLength unlocked range within => exact edit unlocked
  | window unlocked within apart => exact edit unlocked
  | format unlocked unused => exact edit unlocked
  | interval v k unlocked => exact edit unlocked
  | _ => exact .of_track (by simp) (by simp) (by simp) (by simp)

/-- A command on a moving line keeps the configuration, unless it is a device reset. -/
theorem exec_keepsConfig {c : Instr} {s t : State} (m : MotionInv s) (moving : s.track.motion ≠ .stopped)
    (noReset : ∀ straps, c ≠ .deviceReset straps) (e : exec c s = .next t) : KeepsConfig s t := by
  have link (u v : State) (move : LinkMove u v) (h : KeepsConfig s u) : KeepsConfig s v :=
    h.trans (linkMove_keepsConfig move)
  cases kind : lineCommand c with
  | false =>
    obtain ⟨u, v, _, before, own, after⟩ := exec_served kind e
    have locked : u.authority.lock = true := by
      refine linkMoves_keep (P := fun u => u.authority.lock = true) (fun a b move h => ?_) before
        (m.movingLocked moving)
      cases move with
      | channel link f class_ => exact h
      | event c => simpa using h
    exact linkMoves_keep link after
      ((linkMoves_keep link before (.refl s)).trans (effect_keepsConfig locked own))
  | true =>
    exact lineMoves_keep link (fun u v move h => h.trans (lineMove_keepsConfig move))
      (line_moves kind noReset e) (.refl s)

/-- Settles O12: on a moving line the lock is set, behind which no edit is made. -/
theorem movingLineKeepsItsConfiguration : Obligations.MovingLineKeepsItsConfiguration := by
  intro s t c m moving noReset e
  obtain ⟨settings, interval, staleness, windows, formats⟩ := exec_keepsConfig m moving noReset e
  simp only [TrackControl.settings, Prod.mk.injEq] at settings
  obtain ⟨length, settle, advance, exitWait⟩ := settings
  refine ⟨length, settle, advance, exitWait, interval, staleness, windows, fun i => ?_,
    fun i f g before after => ?_⟩
  · simpa using congrArg Option.isSome (formats i)
  · have same := formats i
    rw [before, after] at same
    have same : g.withoutSetpoints = f.withoutSetpoints := Option.some.inj same
    simp only [FormatEntry.withoutSetpoints, FormatEntry.mk.injEq] at same
    obtain ⟨dryingClass, leadGap, minimum, maximum, tolerance, schedules⟩ := same
    refine ⟨dryingClass, leadGap, minimum, maximum, tolerance, fun z => ?_⟩
    have schedule := congrArg (fun v : Vector ZoneSchedule 8 => v[z]) schedules
    simp only [Fin.getElem_fin, Vector.getElem_map, ZoneSchedule.trim, ZoneSchedule.mk.injEq,
      true_and] at schedule
    exact schedule

end Sys2Proof.Machine
end

section
/-! PROOFS. Requests that are not taken (R175, R178, R185): of a class that may not issue them, on a
spacing line, and while the link transmits. -/

namespace Sys2Proof.Machine

/-- The owning block of a request is asked for the classes of the request table (R180); a CLIMATE goes
to the zone monitor by its own path. -/
theorem exec_of_request {c : Instr} {link : Link} {code : Byte} {operands : List Byte}
    (h : request c = some (link, code, operands)) (s : State) :
    (∃ may body, (∀ k, may k = mayIssue code.toNat k) ∧
      exec c s = .next (s.serve link may body)) ∨
    ((∀ k, isZone k = mayIssue code.toNat k) ∧
      ∃ r, exec c s = .next (s.serveClimate link r)) := by
  cases c <;> simp only [request, reduceCtorEq, Option.some.injEq, Prod.mk.injEq] at h
  case climate => obtain ⟨rfl, rfl, _⟩ := h; exact .inr ⟨fun _ => rfl, _, rfl⟩
  case changeover => obtain ⟨rfl, rfl, _⟩ := h; exact .inl ⟨_, _, fun _ => Bool.or_comm _ _, rfl⟩
  case cancelChangeover =>
    obtain ⟨rfl, rfl, _⟩ := h; exact .inl ⟨_, _, fun _ => Bool.or_comm _ _, rfl⟩
  all_goals
    obtain ⟨rfl, rfl, _⟩ := h
    exact .inl ⟨_, _, fun _ => rfl, rfl⟩

section NotTaken
variable {s : State} {link : Link} {may : StationClass → Bool} {body : State → Reply}

/-- A CLIMATE from a quiet link is taken without an answer only on a link of a zone. -/
theorem serveClimate_of_not {r : Report}
    (loud : ¬ (s.links[link].arrival = .taken ∧ isZone s.links[link].class_ = true)) :
    s.serveClimate link r = s.serve link isZone (onZone link (climateReply r)) := by
  unfold State.serveClimate
  rw [if_neg fun h => loud ⟨h.1, h.2.2⟩]

theorem serve_lost (spacing : s.links[link].spacing = true) : s.serve link may body = s := by
  simp only [State.serve, arrival_of_spacing spacing]

theorem serve_contended (marking : s.links[link].spacing = false)
    (busy : s.links[link].transmitter ≠ .idle) : s.serve link may body = s.discardMark link := by
  simp only [State.serve, arrival_of_busy marking busy]

end NotTaken

section Request
variable {c : Instr} {link : Link} {code : Byte} {operands : List Byte} {s : State}
  (h : request c = some (link, code, operands))
include h

/-- A request that the line loses or the transmitter keeps out is not taken, whatever it asks. -/
theorem exec_notTaken {t : State} (notTaken : s.links[link].arrival ≠ .taken)
    (served : ∀ may body, s.serve link may body = t) : exec c s = .next t := by
  rcases exec_of_request h s with ⟨may, body, _, e⟩ | ⟨_, r, e⟩
  · rw [e, served]
  · rw [e, serveClimate_of_not fun taken => notTaken taken.1, served]

theorem exec_forbidden (ready : s.ready link)
    (forbidden : mayIssue code.toNat s.links[link].class_ = false) :
    exec c s = .next (s.answered link (.refused .class_)) := by
  rcases exec_of_request h s with ⟨may, body, table, e⟩ | ⟨table, r, e⟩
  · rw [e, serve_class s link ready ((table _).trans forbidden)]
  · have noZone := (table _).trans forbidden
    rw [e, serveClimate_of_not (fun taken => by rw [noZone] at taken; cases taken.2),
      serve_class s link ready noZone]

end Request

/-- The first mark of a transmission latches CONTENTION on its link, the later ones nothing (R178). -/
theorem discardMark_of_contended {s : State} {link : Link} (again : s.links[link].contended = true) :
    s.discardMark link = s := by
  unfold State.discardMark
  rw [if_pos again]

theorem discardMark_of_first {s : State} {link : Link} (first : s.links[link].contended = false) :
    s.discardMark link =
      let latched : State :=
        { s with
          links := s.links.set link
            { s.links[link] with contended := true, lastError := .link .contention } }
      if s.links[link].class_ = .unbound then latched else latched.route .linkFault := by
  unfold State.discardMark State.latchError
  rw [if_neg (by rw [first]; nofun)]
  simp only [State.changeLink, Fin.getElem_fin, Vector.getElem_set_self, Vector.set_set]

/-- Settles O3, by the arrival of the request on its link, and by the request table where it is
taken. -/
theorem requestsThatAreNotTaken : Obligations.RequestsThatAreNotTaken := by
  refine ⟨fun c link code operands s h ready forbidden => exec_forbidden h ready forbidden,
    fun c link code operands s h => ⟨fun spacing => ?_, fun marking busy again => ?_,
      fun marking busy first => ?_⟩⟩
  · exact exec_notTaken h (by rw [arrival_of_spacing spacing]; nofun) fun _ _ => serve_lost spacing
  · exact exec_notTaken h (by rw [arrival_of_busy marking busy]; nofun) fun _ _ =>
      (serve_contended marking busy).trans (discardMark_of_contended again)
  · exact exec_notTaken h (by rw [arrival_of_busy marking busy]; nofun) fun _ _ =>
      (serve_contended marking busy).trans (discardMark_of_first first)

end Sys2Proof.Machine
end

section
/-! PROOFS. Command frames are read back (R176, R177, R180): numbers as bytes, the operands of a
request, and the frame around them. -/

namespace Sys2Proof

/-! ## Bytes, most significant first (R176) -/

@[simp] theorem beBytes_length (count n : Nat) : (beBytes count n).length = count := by
  induction count with
  | zero => rfl
  | succ count ih => exact congrArg Nat.succ ih

theorem foldl_beBytes (count n start : Nat) :
    (beBytes count n).foldl (fun n b => n * 256 + b.toNat) start =
      start * 256 ^ count + n % 256 ^ count := by
  induction count generalizing start with
  | zero => simp [beBytes, Nat.mod_one]
  | succ count ih =>
    have split : n % (256 ^ count * 256) = n % 256 ^ count + 256 ^ count * (n / 256 ^ count % 256) :=
      Nat.mod_mul
    have byte : 2 ^ 8 = 256 := rfl
    rw [beBytes, List.foldl_cons, ih, BitVec.toNat_ofNat, byte, pow_succ, split]
    ring

/-- A number of `count` bytes is read back from its bytes. -/
theorem ofBytes_beBytes {count : Nat} (x : BitVec (8 * count)) :
    BitVec.ofNat (8 * count) (ofBytes (beBytes count x.toNat)) = x := by
  have size : 256 ^ count = 2 ^ (8 * count) := by rw [Nat.pow_mul]
  unfold ofBytes
  rw [foldl_beBytes, Nat.zero_mul, Nat.zero_add, size, Nat.mod_eq_of_lt x.isLt, BitVec.ofNat_toNat,
    BitVec.setWidth_eq]

/-! ## Operands -/

/-- An operand is the number whose bytes stand in its place. -/
theorem operand_eq {count start : Nat} {bytes : List Byte} (x : BitVec (8 * count))
    (e : (bytes.drop start).take count = beBytes count x.toNat) : operand bytes start count = x := by
  unfold operand
  rw [e, ofBytes_beBytes]

theorem beBytes_one (b : Byte) : beBytes 1 b.toNat = [b] := by
  simp [beBytes]

/-- An operand of one byte is that byte. -/
theorem operand_byte {start : Nat} {bytes : List Byte} (b : Byte)
    (e : (bytes.drop start).take 1 = [b]) : operand bytes start 1 = b :=
  operand_eq (count := 1) b (e.trans (beBytes_one b).symm)

theorem scheduleOperandBytes_length (z : ScheduleOperand) : (scheduleOperandBytes z).length = 7 := rfl

/-- A schedule is read back from its seven bytes. -/
theorem scheduleOperandOf_eq {start : Nat} {bytes rest : List Byte} (z : ScheduleOperand)
    (e : bytes.drop start = scheduleOperandBytes z ++ rest) : scheduleOperandOf bytes start = z := by
  have here (k count : Nat) :
      (bytes.drop (start + k)).take count = ((scheduleOperandBytes z ++ rest).drop k).take count := by
    rw [← e, List.drop_drop]
  have setpoint : operand bytes start 2 = z.temperature :=
    operand_eq (count := 2) z.temperature (here 0 2)
  have byte {k : Nat} {b : Byte} (at_ : ((scheduleOperandBytes z ++ rest).drop k).take 1 = [b]) :
      operand bytes (start + k) 1 = b := operand_byte b ((here k 1).trans at_)
  unfold scheduleOperandOf
  rw [setpoint, byte (k := 2) rfl, byte (k := 3) rfl, byte (k := 4) rfl, byte (k := 5) rfl,
    byte (k := 6) rfl]

/-- The bytes from a schedule of SET_FORMAT on. -/
theorem formatOperandBytes_drop (f : FormatOperand) (z : Zone) :
    ∃ rest, (formatOperandBytes f).drop (11 + 7 * z.val) =
      scheduleOperandBytes f.schedules[z] ++ rest := by
  have sizes (l : List ScheduleOperand) :
      ((l.map scheduleOperandBytes).map List.length) = List.replicate l.length 7 := by
    rw [List.map_map]
    exact List.map_eq_replicate_iff.2 fun z _ => scheduleOperandBytes_length z
  have list : (List.ofFn fun z : Zone => scheduleOperandBytes f.schedules[z]) =
      (List.ofFn fun z : Zone => f.schedules[z]).map scheduleOperandBytes := by
    rw [List.map_ofFn]; rfl
  have skip := List.drop_sum_flatten
    (List.ofFn fun z : Zone => scheduleOperandBytes f.schedules[z]) z.val
  rw [list, sizes, List.take_replicate, List.sum_replicate, ← list, List.length_ofFn,
    Nat.min_eq_left z.isLt.le, smul_eq_mul, Nat.mul_comm] at skip
  have front : (formatOperandBytes f).drop 11 =
      (List.ofFn fun z : Zone => scheduleOperandBytes f.schedules[z]).flatten := rfl
  rw [← List.drop_drop, front, skip, List.drop_eq_getElem_cons (by simp), List.flatten_cons,
    List.getElem_ofFn]
  exact ⟨_, rfl⟩

/-- The operands of SET_FORMAT are read back (R184). -/
theorem formatOperandOf_bytes (f : FormatOperand) : formatOperandOf (formatOperandBytes f) = f := by
  have schedules : (Vector.ofFn fun z : Zone =>
      scheduleOperandOf (formatOperandBytes f) (11 + 7 * z.val)) = f.schedules := by
    refine Vector.ext fun i h => ?_
    rw [Vector.getElem_ofFn]
    obtain ⟨rest, e⟩ := formatOperandBytes_drop f ⟨i, h⟩
    exact scheduleOperandOf_eq _ e
  have minimum : operand (formatOperandBytes f) 4 3 = f.doseMinimum := operand_eq (count := 3) _ rfl
  have maximum : operand (formatOperandBytes f) 7 3 = f.doseMaximum := operand_eq (count := 3) _ rfl
  unfold formatOperandOf
  rw [schedules, minimum, maximum, operand_byte f.format rfl, operand_byte f.isDefined rfl,
    operand_byte f.dryingClass rfl, operand_byte f.leadGap rfl, operand_byte f.tolerance rfl]

theorem formatOperandBytes_length (f : FormatOperand) : (formatOperandBytes f).length = 67 := rfl

section Request
variable {c : Instr} {link : Link} {code : Byte} {operands : List Byte}
  (h : request c = some (link, code, operands))
include h

/-- A command code is followed by as many bytes as the request has operands. -/
theorem operandCount_of_request : operandCount code.toNat = some operands.length := by
  cases c <;> simp only [request, reduceCtorEq, Option.some.injEq, Prod.mk.injEq] at h
  all_goals
    obtain ⟨_, rfl, rfl⟩ := h
    rfl

/-- The operands of a request are read back. -/
theorem requestOf_of_request : requestOf link code.toNat operands = some c := by
  cases c <;> simp only [request, reduceCtorEq, Option.some.injEq, Prod.mk.injEq] at h
  case setFormat link entry =>
    obtain ⟨rfl, rfl, rfl⟩ := h
    exact congrArg (fun f => some (Instr.setFormat link f)) (formatOperandOf_bytes entry)
  all_goals
    obtain ⟨rfl, rfl, rfl⟩ := h
    refine congrArg some ?_
    congr 1 <;> exact operand_eq _ rfl

end Request

/-! ## Frames -/

/-- The check byte makes the sum of a frame 0 (R176). -/
theorem sum_checkByte (bytes : List Byte) :
    (bytes ++ [checkByte bytes]).foldl (· + ·) 0 = (0 : Byte) := by
  rw [List.foldl_append]
  exact BitVec.add_right_neg _

/-- Settles O13: the length of the operands is that of the code, the check balances, and the operands
are read back. -/
theorem commandFrameIsReadBack : Obligations.CommandFrameIsReadBack := by
  intro c link code operands frame h framed
  unfold commandFrame at framed
  rw [h] at framed
  cases framed
  have whole : (operands ++ [checkByte (code :: operands)]).take (operands.length + 1) =
      operands ++ [checkByte (code :: operands)] := List.take_of_length_le (by simp)
  have balanced := sum_checkByte (code :: operands)
  simp only [frameOf, List.cons_append, readFrame, if_true, operandCount_of_request h,
    List.length_append, List.length_singleton, Nat.lt_irrefl, if_false, whole]
  rw [List.cons_append] at balanced
  rw [if_pos balanced, List.take_left, requestOf_of_request h]
  rfl

end Sys2Proof
end

section
/-! PROOFS. The records (R184): their lengths, their fields in order, and the codes of sets. -/

namespace Sys2Proof.Machine

/-! ## Numbers and sets as bytes -/

theorem beBytes_two (n : Nat) : beBytes 2 n = twoBytes n := by
  simp [beBytes, twoBytes]

theorem beBytes_three (n : Nat) : beBytes 3 n = threeBytes n := by
  simp [beBytes, threeBytes, twoBytes]

theorem beBytes_four (n : Nat) : beBytes 4 n = fourBytes n := by
  simp [beBytes, fourBytes, threeBytes, twoBytes]

theorem beBytes_zero (count : Nat) : beBytes count 0 = List.replicate count 0 := by
  induction count with
  | zero => rfl
  | succ count ih => rw [beBytes, ih, Nat.zero_div]; rfl

theorem marks_byte (m : Marks) :
    m.byte = BitVec.ofNat 8 ((if m.minorExposure then 1 else 0) + (if m.majorExposure then 2 else 0) +
      (if m.unmonitored then 4 else 0) + (if m.offSchedule then 8 else 0) +
      (if m.lateShift then 16 else 0) + (if m.lotHeld then 32 else 0) +
      (if m.chainFault then 64 else 0)) := by
  obtain ⟨a, b, c, d, e, f, g⟩ := m
  revert a b c d e f g
  decide

theorem causes_byte (c : Causes) :
    c.byte = BitVec.ofNat 8 ((if c.line then 1 else 0) + (if c.command then 2 else 0) +
      (if c.motion then 4 else 0) + (if c.exit then 8 else 0) + (if c.event then 16 else 0)) := by
  obtain ⟨a, b, c, d, e⟩ := c
  revert a b c d e
  decide

/-- ADVANCE and LINESTOP read as the sub-state and the motion state give them (R49). -/
theorem lineLevels_eq (t : TrackControl) :
    t.lineLevels = BitVec.ofNat 8
      ((match t.step with
          | .advancing _ => 1
          | .idle => 0
          | .exitWait _ => 0
          | .settling _ => 0
          | .suspended => 0) + (if t.advanceDoneLine then 2 else 0) + (if t.holdLine then 4 else 0) +
        (match t.motion with
          | .holding => 8
          | .held => 8
          | .stopped => 0
          | .running => 0)) := by
  unfold TrackControl.lineLevels TrackControl.advanceLine TrackControl.lineStop
  cases t.step <;> cases t.motion <;> cases t.advanceDoneLine <;> cases t.holdLine <;> rfl

theorem seen_byte (minor major : Bool) :
    bitsByte [minor, major] =
      BitVec.ofNat 8 ((if minor then 1 else 0) + if major then 2 else 0) := by
  revert minor major
  decide

/-! ## Lengths -/

section Length
variable (s : State)

theorem exitRecord_length (id : Nat) : (s.exitRecord id).length = 17 := by
  unfold State.exitRecord
  split <;> rfl

theorem stagedRecord_length (id : Nat) : (s.stagedRecord id).length = 10 := by
  unfold State.stagedRecord
  split <;> rfl

theorem rodRecord_length (id : Nat) : (s.rodRecord id).length = 26 := by
  unfold State.rodRecord
  split <;> rfl

theorem claimsRecord_length (index : Nat) : (s.claimsRecord index).length = 3 := by
  unfold State.claimsRecord
  split <;> rfl

/-- A staged rod stands at every index of the STAGING space beyond the admission record. -/
theorem staging_record_length {index : Nat} (held : s.holdsRecord .staging index = true)
    (notZero : index ≠ 0) :
    ((s.admission.staging[index - 1]?).elim [] s.stagedRecord).length = 10 := by
  have there : index - 1 < s.admission.staging.length := by
    simp only [State.holdsRecord, Bool.and_eq_true, decide_eq_true_eq] at held
    omega
  rw [List.getElem?_eq_getElem there]
  exact stagedRecord_length s _

theorem exit_record_length {index : Nat} (held : s.holdsRecord .exit index = true) :
    ((s.exitQueue[index]?).elim [] s.exitRecord).length = 17 := by
  have there : index < s.exitQueue.length := by
    simp only [State.holdsRecord, Bool.and_eq_true, decide_eq_true_eq] at held
    exact held.2
  rw [List.getElem?_eq_getElem there]
  exact exitRecord_length s _

end Length

/-! ## Records of a rod, a lot and a format -/

theorem rodRecord_of_none {s : State} {id : Nat} (absent : s.rod id = none) :
    s.rodRecord id = List.replicate 26 0 := by
  unfold State.rodRecord
  rw [absent]
  exact beBytes_zero 26

theorem lotNumber_of_lot {s : State} {r : RodRecord} {l : Lot}
    (lot : s.registry.lots[r.lot] = some l) : s.lotNumber r = l.number := by
  unfold State.lotNumber
  rw [lot]
  rfl

theorem schedule_bytes (y : ZoneSchedule) :
    y.bytes = twoBytes y.temperature ++ [BitVec.ofNat 8 y.temperatureTolerance] ++
      [BitVec.ofNat 8 y.temperatureLimit] ++ [BitVec.ofNat 8 y.humidity] ++
      [BitVec.ofNat 8 y.humidityTolerance] ++ [BitVec.ofNat 8 y.humidityLimit] := by
  unfold ZoneSchedule.bytes
  rw [beBytes_two]
  rfl

theorem zeroSchedules_bytes :
    (List.ofFn fun z : Zone => FormatEntry.zero.schedules[z].bytes).flatten = List.replicate 56 0 := by
  decide

/-- The fields of an undefined format read as 0 (R159). -/
theorem formatRecord_of_none {s : State} {n : Nat} (undefined : s.format n = none) :
    s.formatRecord n = [BitVec.ofNat 8 n] ++ List.replicate 66 0 := by
  unfold State.formatRecord State.formatFields
  rw [undefined, Option.getD_none]
  dsimp only
  rw [zeroSchedules_bytes]
  simp only [FormatEntry.zero, beBytes_zero]
  rfl

/-- Settles O14, space by space. -/
theorem recordsHaveTheirLengths : Obligations.RecordsHaveTheirLengths := by
  unfold Obligations.RecordsHaveTheirLengths
  intro one zeros flag bit index marks grade disposition reportClass boarding pending
  have id_of {s : State} {id : Nat} {r : RodRecord} (known : s.rod id = some r) : r.id = id :=
    findRod_id known
  refine ⟨fun s space i held => ?_, fun s => ?_, fun s p => ⟨fun id r slot known => ?_, fun gap => ?_⟩,
    fun s z => ?_, fun s i => ⟨fun undefined => ?_, fun f defined => ?_⟩, fun s => ?_,
    fun s id r l known lot => ⟨fun k staged => ?_, fun b e d exited => ?_⟩,
    fun s id => ⟨fun absent => ?_, fun r known => ?_⟩, fun s i => ⟨fun free => ?_, fun l lot => ?_⟩,
    fun s z => ⟨fun empty => ?_, fun r record => ?_⟩, fun s => ?_⟩
  case refine_1 =>
    cases space with
    | staging =>
      simp only [State.recordBytes]
      split
      · rfl
      · next notZero => exact staging_record_length s held notZero
    | exit => exact exit_record_length s held
    | rod => exact rodRecord_length s i
    | claims => exact claimsRecord_length s i
    | _ => rfl
  case refine_2 =>
    simp only [State.recordBytes, State.motionRecord, beBytes_two, beBytes_four, causes_byte,
      lineLevels_eq, one, flag, twoBytes, fourBytes, threeBytes, List.cons_append, List.nil_append]
    cases s.admission.boarding <;> rfl
  case refine_3 =>
    simp only [State.recordBytes, State.trackRecord, slot, Option.join_some, Option.bind_some, known,
      beBytes_two, beBytes_four, Option.elim, id_of known]
    cases r.grade <;> rfl
  case refine_4 =>
    simp only [State.recordBytes, State.trackRecord, gap, Option.join_some, Option.bind_none,
      beBytes_two, beBytes_four, Option.elim]
    rfl
  case refine_5 =>
    simp only [State.recordBytes, State.zoneRecord, beBytes_two, beBytes_four, Fin.ofNat_val_eq_self]
    generalize s.zones.channels[z] = c
    cases c.report <;> cases c.reportClass <;> cases c.boundLink <;> rfl
  case refine_6 =>
    exact formatRecord_of_none ((format_of_eq rfl).trans undefined)
  case refine_7 =>
    simp only [State.recordBytes, State.formatRecord, State.formatFields, format_of_eq rfl, defined,
      beBytes_three, Option.getD_some, schedule_bytes]
    rfl
  case refine_8 =>
    simp only [State.recordBytes, State.admissionRecord, beBytes_two]
    cases s.admission.boarding <;> rfl
  case refine_9 =>
    simp only [State.recordBytes, Nat.add_one_ne_zero, if_false, Nat.add_one_sub_one, staged,
      Option.elim, State.stagedRecord, known, lotNumber_of_lot lot, beBytes_two, beBytes_three,
      beBytes_four, id_of known]
    rfl
  case refine_10 =>
    refine ⟨?_, fun k queued => ?_⟩
    · simp only [State.exitRecord, known, lotNumber_of_lot lot, exited, beBytes_two, beBytes_three,
        beBytes_four, marks_byte, id_of known]
      cases r.grade <;> cases d <;> rfl
    · simp only [State.recordBytes, queued, Option.elim]
  case refine_11 => exact rodRecord_of_none absent
  case refine_12 =>
    simp only [State.recordBytes, State.rodRecord, known, beBytes_two, beBytes_three, beBytes_four,
      marks_byte, id_of known, one, zeros, twoBytes, threeBytes, fourBytes, List.cons_append,
      List.nil_append]
    have grade_eq (g : Grade) : [byteOf g.level] = grade g := by cases g <;> rfl
    rw [← grade_eq]
    cases r.place with
    | exited b e d =>
      simp only [Place.code, Place.position, Place.boardStep, Place.exitStep, Place.dispositionCode,
        List.replicate, List.cons_append, List.nil_append]
      cases d <;> rfl
    | _ =>
      simp only [Place.code, Place.position, Place.boardStep, Place.exitStep, Place.dispositionCode,
        List.replicate, List.cons_append, List.nil_append]
      rfl
  case refine_13 =>
    simp only [State.recordBytes, State.lotRecord, Fin.ofNat_val_eq_self, free]
    rfl
  case refine_14 =>
    simp only [State.recordBytes, State.lotRecord, Fin.ofNat_val_eq_self, lot, beBytes_two,
      beBytes_three, Option.elim, Option.bind_some, lotStateCode]
    cases l.status <;> cases l.forward <;> rfl
  case refine_15 =>
    simp only [State.recordBytes, State.captureRecordBytes, Fin.ofNat_val_eq_self, empty, seen_byte]
    rfl
  case refine_16 =>
    simp only [State.recordBytes, State.captureRecordBytes, Fin.ofNat_val_eq_self, record, seen_byte,
      beBytes_two, beBytes_four, Option.elim]
    cases r.reportClass <;> rfl
  case refine_17 =>
    have index_eq (i : Option Link) : [indexByte i] = index i := by cases i <;> rfl
    refine ⟨?_, ?_, ?_⟩
    · exact congrArg (fun holder => one 0 ++ holder ++ zeros 1) (index_eq _)
    · exact congrArg (fun holder => one 1 ++ holder ++ flag s.authority.drain) (index_eq _)
    · exact congrArg (fun holder => one 2 ++ holder ++ flag s.authority.lock) (index_eq _)

end Sys2Proof.Machine
end

section
/-! PROOFS. The requests on lots (R10 to R17): what the registry replies, check by check, the freeing
cascade turn by turn, and the visits of a chain resolution. -/

namespace Sys2Proof.Machine

/-! ## The classes that may issue a request -/

section May
variable {s : State} {link : Link}

theorem isSpreader_of_readyAs (h : s.readyAs link .spreader) :
    isSpreader s.links[link].class_ = true :=
  decide_eq_true h.2

theorem isStripper_of_readyAs (h : s.readyAs link .stripper) :
    isStripper s.links[link].class_ = true :=
  decide_eq_true h.2

theorem serve_spreader_refuse {body : State → Reply} {r : Reason} (h : s.readyAs link .spreader)
    (b : body (s.endFrame link) = refuse (s.endFrame link) r) :
    s.serve link isSpreader body = s.answered link (.refused r) :=
  serve_refuse s link h.1 (isSpreader_of_readyAs h) b

/-- A request that changes the lot table alone is answered from the part with that table. -/
theorem serve_accept_lots {may : StationClass → Bool} {body : State → Reply} {lots : LotTable}
    (ready : s.ready link) (m : may s.links[link].class_ = true)
    (b : body (s.endFrame link) = accept ((s.endFrame link).mapLots fun _ => lots)) :
    s.serve link may body = (s.withLots lots).answered link .accepted :=
  serve_accept s link (t := s.withLots lots) ready m rfl b

end May

/-! ## What the registry replies (R11, R12, R14 to R16) -/

section Reply
variable {s : State} {number format : Nat}

theorem isFormatNumber_iff (n : Nat) : isFormatNumber n = true ↔ 1 ≤ n ∧ n ≤ 16 := by
  simp [isFormatNumber]

theorem openLotReply_of_range (out : number = 0 ∨ format = 0 ∨ 16 < format) :
    openLotReply number format s = refuse s .range := by
  unfold openLotReply
  rw [if_pos]
  rw [isFormatNumber_iff]
  omega

section Checked
variable (within : ¬ (number = 0 ∨ format = 0 ∨ 16 < format))
include within

theorem openLotReply_of_undefined (undefined : (s.format format).isNone = true) :
    openLotReply number format s = refuse s .notFound := by
  unfold openLotReply
  rw [if_neg (by rw [isFormatNumber_iff]; omega), if_pos undefined]

theorem openLotReply_of_duplicate (defined : (s.format format).isNone = false)
    (named : ¬ namesNoLot s.registry.lots number) :
    openLotReply number format s = refuse s .duplicate := by
  unfold openLotReply
  rw [if_neg (by rw [isFormatNumber_iff]; omega), if_neg (by rw [defined]; nofun), if_pos]
  rw [Option.isSome_iff_ne_none]
  exact fun none => named (lotIndexOf_eq_none.1 none)

theorem openLotReply_of_full (defined : (s.format format).isNone = false)
    (fresh : namesNoLot s.registry.lots number) (full : ∀ i : Fin 32, s.registry.lots[i].isSome = true) :
    openLotReply number format s = refuse s .full := by
  unfold openLotReply
  rw [if_neg (by rw [isFormatNumber_iff]; omega), if_neg (by rw [defined]; nofun),
    if_neg (by rw [lotIndexOf_eq_none.2 fresh]; nofun), lowestFree_eq_none.2 full]

theorem openLotReply_of_free {free : Fin 32} (defined : (s.format format).isNone = false)
    (fresh : namesNoLot s.registry.lots number) (lowest : lowestFree s.registry.lots = some free) :
    openLotReply number format s =
      { state := s.mapLots fun lots => openLotAt lots free number format
        answer := .data [byteOf free.val] } := by
  unfold openLotReply
  rw [if_neg (by rw [isFormatNumber_iff]; omega), if_neg (by rw [defined]; nofun),
    if_neg (by rw [lotIndexOf_eq_none.2 fresh]; nofun), lowest]

end Checked

theorem closeLotReply_of_none (noOpen : openLotIndex s.registry.lots = none) :
    closeLotReply s = refuse s .state := by
  unfold closeLotReply
  rw [noOpen]

theorem closeLotReply_of_index {i : Fin 32} (opened : openLotIndex s.registry.lots = some i) :
    closeLotReply s = accept (s.mapLots fun lots => closeLotAt lots i) := by
  unfold closeLotReply
  rw [opened]

theorem onLot_of_zero {body : Fin 32 → Reply} (zero : number = 0) :
    onLot number s body = refuse s .range := by
  unfold onLot
  rw [if_pos zero]

theorem onLot_of_namesNoLot {body : Fin 32 → Reply} (nonzero : ¬ number = 0)
    (none : namesNoLot s.registry.lots number) : onLot number s body = refuse s .notFound := by
  unfold onLot
  rw [if_neg nonzero, lotIndexOf_eq_none.2 none]

theorem onLot_of_index {body : Fin 32 → Reply} {i : Fin 32} (nonzero : ¬ number = 0)
    (named : lotIndexOf s.registry.lots number = some i) : onLot number s body = body i := by
  unfold onLot
  rw [if_neg nonzero, named]

/-- The look-up of a lot number that some entry carries. -/
theorem lotIndexOf_isSome {lots : LotTable} (named : ¬ namesNoLot lots number) :
    ∃ i, lotIndexOf lots number = some i :=
  Option.ne_none_iff_exists'.1 fun none => named (lotIndexOf_eq_none.1 none)

end Reply

/-- An entry in use changed is that entry written. -/
theorem changeLot_of_entry {lots : LotTable} {i : Fin 32} {l : Lot} (e : lots[i] = some l)
    (f : Lot → Lot) : changeLot lots i f = lots.set i (some (f l)) := by
  unfold changeLot
  rw [e]
  rfl

/-- Settles O16: the checks of R11 in order, and the OPEN lot that is looked up. -/
theorem openAndCloseLot : Obligations.OpenAndCloseLot := by
  refine ⟨?_, fun s link ready => ⟨fun noOpen => ?_, fun i l entry opened only => ?_⟩⟩
  intro s link number format ready lots reason
  refine ⟨fun r refused => ?_, fun accepted free isFree lowest => ?_⟩
  · have reply : openLotReply number.toNat format.toNat (s.endFrame link) =
        refuse (s.endFrame link) r := by
      simp only [reason, firstReason_eq_some, firstReason_nil, decide_eq_true_eq,
        decide_eq_false_iff_not, not_not] at refused
      rcases refused with ⟨out, rfl⟩ | ⟨within, ⟨undefined, rfl⟩ | ⟨defined, ⟨named, rfl⟩ |
        ⟨fresh, ⟨full, rfl⟩ | ⟨_, noReason⟩⟩⟩⟩
      · exact openLotReply_of_range out
      · exact openLotReply_of_undefined within undefined
      · exact openLotReply_of_duplicate within defined named
      · exact openLotReply_of_full within defined fresh full
      · cases noReason
    exact congrArg Host.Outcome.next (serve_spreader_refuse ready reply)
  · simp only [reason, firstReason_eq_none, decide_eq_false_iff_not, not_not] at accepted
    obtain ⟨within, defined, fresh, _⟩ := accepted
    have reply : openLotReply number.toNat format.toNat (s.endFrame link) =
        { state := (s.mapLots fun lots => openLotAt lots free number.toNat format.toNat).endFrame link
          answer := .data [byteOf free.val] } :=
      openLotReply_of_free within defined fresh (lowestFree_some.2 ⟨isFree, lowest⟩)
    exact congrArg Host.Outcome.next
      (serve_endFrame s link ready.1 (isSpreader_of_readyAs ready) reply)
  · exact congrArg Host.Outcome.next (serve_spreader_refuse ready
      (closeLotReply_of_none (s := s.endFrame link) (openLotIndex_eq_none.2 noOpen)))
  · have isOpen : isOpenLot s.registry.lots[i] = true := by
      rw [entry]; exact decide_eq_true opened
    have reply : closeLotReply (s.endFrame link) = accept ((s.endFrame link).mapLots fun _ =>
        freeIfSpent (s.registry.lots.set i (some { l with status := .closed })) i) := by
      rw [← changeLot_of_entry entry fun l => { l with status := .closed }]
      exact closeLotReply_of_index (openLotIndex_of_only isOpen only)
    exact congrArg Host.Outcome.next
      (serve_accept_lots ready.1 (isSpreader_of_readyAs ready) reply)

/-- Settles O17: both requests look the lot up and write its held flag. -/
theorem holdAndReleaseLotWriteTheHeldFlag : Obligations.HoldAndReleaseLotWriteTheHeldFlag := by
  intro s link number ready reason
  refine ⟨fun r refused => ?_, fun accepted i l entry named => ?_⟩
  · have reply (held : Bool) : writeHeldReply number.toNat held (s.endFrame link) =
        refuse (s.endFrame link) r := by
      simp only [reason, firstReason_eq_some, firstReason_nil, decide_eq_true_eq,
        decide_eq_false_iff_not] at refused
      rcases refused with ⟨zero, rfl⟩ | ⟨nonzero, ⟨none, rfl⟩ | ⟨_, noReason⟩⟩
      · exact onLot_of_zero zero
      · exact onLot_of_namesNoLot nonzero none
      · cases noReason
    exact ⟨congrArg Host.Outcome.next (serve_supervisor_refuse ready (reply true)),
      congrArg Host.Outcome.next (serve_supervisor_refuse ready (reply false))⟩
  · simp only [reason, firstReason_eq_none, decide_eq_false_iff_not] at accepted
    obtain ⟨nonzero, _, _⟩ := accepted
    have reply (held : Bool) : writeHeldReply number.toNat held (s.endFrame link) =
        accept ((s.endFrame link).mapLots fun _ =>
          s.registry.lots.set i (some { l with held := held })) := by
      rw [← changeLot_of_entry entry fun l => { l with held := held }]
      exact onLot_of_index nonzero (lotIndexOf_of_names named)
    have served (held : Bool) :=
      serve_accept_lots ready.1 (isSupervisor_of_readyAs ready) (reply held)
    exact ⟨congrArg Host.Outcome.next (served true), congrArg Host.Outcome.next (served false)⟩

/-! ## Forwards -/

section Fold
variable {s : State} {a b : Nat}

theorem foldLotReply_of_zero (zero : a = 0 ∨ b = 0) : foldLotReply a b s = refuse s .range := by
  unfold foldLotReply
  rw [if_pos zero]

variable (nonzero : ¬ (a = 0 ∨ b = 0))
include nonzero

theorem foldLotReply_of_noSource (none : namesNoLot s.registry.lots a) :
    foldLotReply a b s = refuse s .notFound := by
  unfold foldLotReply
  rw [if_neg nonzero, lotIndexOf_eq_none.2 none]

theorem foldLotReply_of_noTarget {i : Fin 32} (source : lotIndexOf s.registry.lots a = some i)
    (none : namesNoLot s.registry.lots b) : foldLotReply a b s = refuse s .notFound := by
  unfold foldLotReply
  rw [if_neg nonzero, source, lotIndexOf_eq_none.2 none]

variable {i j : Fin 32} (source : lotIndexOf s.registry.lots a = some i)
  (target : lotIndexOf s.registry.lots b = some j)
include source target

theorem foldLotReply_of_same (same : a = b) : foldLotReply a b s = refuse s .range := by
  unfold foldLotReply
  rw [if_neg nonzero, source, target]
  exact if_pos same

theorem foldLotReply_of_forward (apart : ¬ a = b)
    (forward : (s.registry.lots[i].bind (·.forward)).isSome = true) :
    foldLotReply a b s = refuse s .state := by
  unfold foldLotReply
  rw [if_neg nonzero, source, target]
  exact (if_neg apart).trans (if_pos forward)

theorem foldLotReply_of_noForward (apart : ¬ a = b)
    (noForward : (s.registry.lots[i].bind (·.forward)).isSome = false) :
    foldLotReply a b s = accept (s.mapLots fun lots => foldAt lots i j) := by
  unfold foldLotReply
  rw [if_neg nonzero, source, target]
  exact (if_neg apart).trans (if_neg (by rw [noForward]; nofun))

end Fold

/-- Two numbers name two entries. -/
theorem lots_apart {lots : LotTable} {a b : Nat} {i j : Fin 32} (apart : ¬ a = b)
    (source : namesLot lots a i) (target : namesLot lots b j) : i ≠ j := fun same => by
  have := source.1
  rw [same, target.1] at this
  exact apart (Option.some.inj this).symm

section Unfold
variable {s : State} {number : Nat} {i : Fin 32} (nonzero : ¬ number = 0)
  (named : lotIndexOf s.registry.lots number = some i)
include nonzero named

theorem unfoldLotReply_of_noForward (noForward : s.registry.lots[i].bind (·.forward) = none) :
    unfoldLotReply number s = refuse s .state := by
  unfold unfoldLotReply
  rw [onLot_of_index nonzero named, noForward]

theorem unfoldLotReply_of_forward {j : Fin 32}
    (forward : s.registry.lots[i].bind (·.forward) = some j) :
    unfoldLotReply number s = accept (s.mapLots fun lots => unfoldAt lots i j) := by
  unfold unfoldLotReply
  rw [onLot_of_index nonzero named, forward]

end Unfold

/-- Settles O18: the checks of R14 and R15 in order, and the redirection of the forward. -/
theorem foldAndUnfoldLot : Obligations.FoldAndUnfoldLot := by
  refine ⟨?_, ?_⟩
  all_goals intro s link
  on_goal 1 =>
    intro numberA numberB ready lots reason
    refine ⟨fun r refused => ?_, fun accepted a b la lb entryA entryB namedA namedB => ?_⟩
  on_goal 3 =>
    intro number ready lots reason
    refine ⟨fun r refused => ?_, fun accepted a b la lb entryA named forward apart entryB => ?_⟩
  · have reply : foldLotReply numberA.toNat numberB.toNat (s.endFrame link) =
        refuse (s.endFrame link) r := by
      simp only [reason, firstReason_eq_some, firstReason_nil, decide_eq_true_eq,
        decide_eq_false_iff_not] at refused
      rcases refused with ⟨zero, rfl⟩ | ⟨nonzero, ⟨noSource, rfl⟩ | ⟨source, ⟨noTarget, rfl⟩ |
        ⟨target, rest⟩⟩⟩
      · exact foldLotReply_of_zero zero
      · exact foldLotReply_of_noSource nonzero noSource
      · obtain ⟨i, found⟩ := lotIndexOf_isSome source
        exact foldLotReply_of_noTarget nonzero found noTarget
      · obtain ⟨i, foundA⟩ := lotIndexOf_isSome source
        obtain ⟨j, foundB⟩ := lotIndexOf_isSome target
        rw [foundA, Option.any_some, ← BitVec.toNat_inj] at rest
        rcases rest with ⟨same, rfl⟩ | ⟨apart, ⟨forward, rfl⟩ | ⟨_, noReason⟩⟩
        · exact foldLotReply_of_same nonzero foundA foundB same
        · exact foldLotReply_of_forward nonzero foundA foundB apart forward
        · cases noReason
    exact congrArg Host.Outcome.next (serve_supervisor_refuse ready reply)
  · simp only [reason, firstReason_eq_none, decide_eq_false_iff_not,
      lotIndexOf_of_names namedA, Option.any_some] at accepted
    obtain ⟨nonzero, _, _, apart, noForward, _⟩ := accepted
    have apart : ¬ numberA.toNat = numberB.toNat := fun same => apart (BitVec.eq_of_toNat_eq same)
    have reply : foldLotReply numberA.toNat numberB.toNat (s.endFrame link) =
        accept ((s.endFrame link).mapLots fun _ =>
          (lots.set a (some { la with forward := some b })).set b
            (some { lb with referrers := lb.referrers + 1 })) := by
      refine (foldLotReply_of_noForward (s := s.endFrame link) nonzero (lotIndexOf_of_names namedA)
        (lotIndexOf_of_names namedB) apart noForward).trans ?_
      exact congrArg (fun t => accept ((s.endFrame link).mapLots fun _ => t))
        (foldAt_eq entryA entryB (lots_apart apart namedA namedB))
    exact congrArg Host.Outcome.next
      (serve_accept_lots ready.1 (isSupervisor_of_readyAs ready) reply)
  · have reply : unfoldLotReply number.toNat (s.endFrame link) = refuse (s.endFrame link) r := by
      simp only [reason, firstReason_eq_some, firstReason_nil, decide_eq_true_eq,
        decide_eq_false_iff_not] at refused
      rcases refused with ⟨zero, rfl⟩ | ⟨nonzero, ⟨none, rfl⟩ | ⟨named, rest⟩⟩
      · exact onLot_of_zero zero
      · exact onLot_of_namesNoLot nonzero none
      · obtain ⟨i, found⟩ := lotIndexOf_isSome named
        rw [found, Option.any_some, Option.isNone_iff_eq_none] at rest
        rcases rest with ⟨noForward, rfl⟩ | ⟨_, noReason⟩
        · exact unfoldLotReply_of_noForward nonzero found noForward
        · cases noReason
    exact congrArg Host.Outcome.next (serve_supervisor_refuse ready reply)
  · simp only [reason, firstReason_eq_none, decide_eq_false_iff_not] at accepted
    obtain ⟨nonzero, _⟩ := accepted
    have next : lots[a].bind (·.forward) = some b := by rw [entryA]; exact forward
    have reply : unfoldLotReply number.toNat (s.endFrame link) =
        accept ((s.endFrame link).mapLots fun _ =>
          freeIfSpent ((lots.set a (some { la with forward := none })).set b
            (some { lb with referrers := lb.referrers - 1 })) b) := by
      refine (unfoldLotReply_of_forward (s := s.endFrame link) nonzero (lotIndexOf_of_names named) next).trans ?_
      exact congrArg (fun t => accept ((s.endFrame link).mapLots fun _ => t))
        (unfoldAt_eq entryA entryB apart.symm)
    exact congrArg Host.Outcome.next
      (serve_accept_lots ready.1 (isSupervisor_of_readyAs ready) reply)

/-! ## The freeing cascade (R10) -/

/-- Settles O19: one turn of the cascade, where the turns left are enough. -/
theorem freeingCascadeFollowsTheForwards : Obligations.FreeingCascadeFollowsTheForwards := by
  intro lots i
  refine ⟨freeCascade_free 32, fun l entry notSpent => freeCascade_kept 32 entry ?_,
    fun l entry closed noRods noReferrers => ?_⟩
  · rw [Bool.eq_false_iff, Ne, isSpent_iff]
    exact notSpent
  · have spent := (isSpent_iff l).2 ⟨closed, noRods, noReferrers⟩
    refine ⟨freeCascade_last 31 entry spent, fun f m forward apart target => ?_⟩
    have kept : (lots.set i none)[f] = some m := by
      rw [getElem_set_lot, if_neg apart.symm]
      exact target
    have used := usedLots_free (lots := lots) (i := i) (by rw [entry]; rfl)
    have bound := usedLots_le lots
    unfold freeIfSpent
    rw [freeCascade_next 31 entry spent forward, ← changeLot_of_entry kept fun m =>
      { m with referrers := m.referrers - 1 }]
    exact freeCascade_enough 31 32 _ f (by rw [usedLots_changeLot]; omega)
      (by rw [usedLots_changeLot]; omega)

/-! ## Chain resolution (R17) -/

section Chain
variable (lots : LotTable)

theorem chainVisit_zero (i : Fin 32) : chainVisit lots i 0 = some i := rfl

/-- A walk from an entry goes on as the walk from its forward. -/
theorem chainVisit_succ (i : Fin 32) (k : Nat) :
    chainVisit lots i (k + 1) = (lots[i].bind (·.forward)).bind fun f => chainVisit lots f k := by
  induction k with
  | zero =>
    rw [chainVisit, chainVisit, Option.bind_some]
    cases lots[i].bind (·.forward) <;> rfl
  | succ k ih =>
    rw [chainVisit, ih]
    cases lots[i].bind (·.forward) <;> rfl

theorem chainVisit_succ_of_forward {i f : Fin 32} {l : Lot} (e : lots[i] = some l)
    (forward : l.forward = some f) (k : Nat) : chainVisit lots i (k + 1) = chainVisit lots f k := by
  rw [chainVisit_succ, e, Option.bind_some, forward, Option.bind_some]

theorem chainVisit_succ_of_end {i : Fin 32} (last : lots[i].bind (·.forward) = none) (k : Nat) :
    chainVisit lots i (k + 1) = none := by
  rw [chainVisit_succ, last, Option.bind_none]

/-- A held entry is among the lots visited where one of the visits meets it. -/
theorem visitedLots_any_held (n : Nat) (i : Fin 32) :
    (visitedLots lots n i).any (·.held) = true ↔
      ∃ k, k < n ∧ ((chainVisit lots i k).any fun j => lots[j].any (·.held)) = true := by
  induction n generalizing i with
  | zero => simp [visitedLots]
  | succ n ih =>
    rw [Nat.exists_lt_succ_left, visitedLots, chainVisit_zero, Option.any_some]
    cases e : lots[i] with
    | none =>
      have last : lots[i].bind (·.forward) = none := by rw [e]; rfl
      simp [chainVisit_succ_of_end lots last]
    | some l =>
      cases forward : l.forward with
      | none =>
        have last : lots[i].bind (·.forward) = none := by rw [e]; exact forward
        simp [chainVisit_succ_of_end lots last, forward]
      | some f =>
        simp only [forward, List.any_cons, Bool.or_eq_true, Option.any_some, ih f,
          chainVisit_succ_of_forward lots e forward]

/-- As many lots are visited as visits are allowed, with a forward left, where the walk goes on. -/
theorem visitedLots_full (n : Nat) (i : Fin 32) :
    ((visitedLots lots (n + 1) i).length = n + 1 ∧
        ((visitedLots lots (n + 1) i).getLast?.bind (·.forward)).isSome = true) ↔
      (chainVisit lots i (n + 1)).isSome = true := by
  induction n generalizing i with
  | zero =>
    rw [visitedLots]
    cases e : lots[i] with
    | none =>
      have last : lots[i].bind (·.forward) = none := by rw [e]; rfl
      simp [chainVisit_succ_of_end lots last]
    | some l =>
      cases forward : l.forward with
      | none =>
        have last : lots[i].bind (·.forward) = none := by rw [e]; exact forward
        simp [chainVisit_succ_of_end lots last, forward]
      | some f =>
        simp [chainVisit_succ_of_forward lots e forward, chainVisit_zero, forward, visitedLots]
  | succ n ih =>
    rw [visitedLots]
    cases e : lots[i] with
    | none =>
      have last : lots[i].bind (·.forward) = none := by rw [e]; rfl
      simp [chainVisit_succ_of_end lots last]
    | some l =>
      cases forward : l.forward with
      | none =>
        have last : lots[i].bind (·.forward) = none := by rw [e]; exact forward
        simp [chainVisit_succ_of_end lots last, forward]
      | some f =>
        rw [chainVisit_succ_of_forward lots e forward, ← ih f]
        simp only [forward, List.length_cons, Nat.add_right_cancel_iff]
        refine and_congr_right fun full => ?_
        have some_ : visitedLots lots (n + 1) f ≠ [] := fun none => by rw [none] at full; cases full
        rw [List.getLast?_cons_of_ne_nil some_]

end Chain

/-- Settles O20: which lots are visited, and whether the walk goes on after five of them. -/
theorem chainResolutionVisitsAtMostFive : Obligations.ChainResolutionVisitsAtMostFive := by
  intro lots i met
  have held : (visitedLots lots 5 i).any (·.held) = true ↔ ∃ k, k < 5 ∧ met k = true :=
    visitedLots_any_held lots 5 i
  have full := visitedLots_full lots 4 i
  have none_held : (∀ k, k < 5 → met k = false) ↔ ¬ ∃ k, k < 5 ∧ met k = true := by
    simp
  have none_left : chainVisit lots i 5 = none ↔ ¬ (chainVisit lots i 5).isSome = true := by
    simp
  have five : Config.chainVisits = 5 := rfl
  rw [none_held, none_left, ← held, ← full]
  unfold resolveChain
  simp only [five]
  by_cases any : (visitedLots lots 5 i).any (·.held) = true
  · simp [any]
  · rw [if_neg any]
    split_ifs with left
    · simp [any, left]
    · simp [any, left]

end Sys2Proof.Machine
end

section
/-! PROOFS. The admission unit (R67 to R83): HANG, WITHDRAW, CHANGEOVER and its cancellation, the
boarding choice and the beginning of a step. -/

namespace Sys2Proof.Machine

/-! ## HANG (R69, R70) -/

section Hang
variable {s : State} {id : Nat}

/-- A recorded gap is no rod (R67). -/
theorem rodsHeld_eq (a : Admission) :
    a.rodsHeld = a.staging.length + match a.boarding with | .rod _ => 1 | .gap => 0 | .empty => 0 := by
  unfold Admission.rodsHeld
  cases a.boarding <;> rfl

/-- The format of the OPEN lot. -/
def State.openFormat (s : State) : Option Nat :=
  (openLotIndex s.registry.lots).bind fun i => s.registry.lots[i].map (·.format)

/-- A rod of a format may not hang: it is of neither the running nor the pending format (R69). -/
def Admission.wrongFormat (a : Admission) (format : Option Nat) : Bool :=
  a.running.isSome && decide (format ≠ a.running) &&
    match a.mode with
    | .changeover p _ => decide (format ≠ some p)
    | .open_ => true
    | .closed => true

theorem takesFormat_eq (a : Admission) (format : Nat) :
    a.takesFormat format = !a.wrongFormat (some format) := by
  unfold Admission.takesFormat Admission.wrongFormat
  cases a.running <;> cases a.mode <;> simp

theorem hangReply_of_zero (zero : id = 0) : hangReply id s = refuse s .range := if_pos zero

section Checked
variable (nonzero : ¬ id = 0)
include nonzero

theorem hangReply_of_full (full : 4 ≤ s.admission.rodsHeld) : hangReply id s = refuse s .full :=
  (if_neg nonzero).trans (if_pos full)

variable (room : ¬ 4 ≤ s.admission.rodsHeld)
include room

theorem hangReply_of_known (known : (s.rod id).isSome = true) :
    hangReply id s = refuse s .duplicate :=
  ((if_neg nonzero).trans (if_neg room)).trans (if_pos known)

variable (fresh : (s.rod id).isSome = false)
include fresh

theorem hangReply_of_noLot (noLot : s.openFormat = none) : hangReply id s = refuse s .noLot := by
  unfold hangReply
  rw [if_neg nonzero, if_neg (show ¬ Config.stagingCapacity ≤ _ from room),
    if_neg (by rw [fresh]; nofun)]
  unfold State.openFormat at noLot
  cases opened : openLotIndex s.registry.lots with
  | none => rfl
  | some i =>
    rw [opened, Option.bind_some, Option.map_eq_none_iff] at noLot
    dsimp only
    rw [noLot]

theorem hangReply_of_lot {i : Fin 32} {l : Lot} (opened : openLotIndex s.registry.lots = some i)
    (lot : s.registry.lots[i] = some l) :
    hangReply id s =
      if s.admission.takesFormat l.format then accept (s.hangRod id i l.format)
      else refuse s .wrongFormat := by
  unfold hangReply
  rw [if_neg nonzero, if_neg (show ¬ Config.stagingCapacity ≤ _ from room),
    if_neg (by rw [fresh]; nofun), opened]
  dsimp only
  rw [lot]

end Checked

theorem openFormat_eq_some {f : Nat} (e : s.openFormat = some f) :
    ∃ i l, openLotIndex s.registry.lots = some i ∧ s.registry.lots[i] = some l ∧ l.format = f := by
  obtain ⟨i, opened, rest⟩ := Option.bind_eq_some_iff.1 e
  obtain ⟨l, lot, format⟩ := Option.map_eq_some_iff.1 rest
  exact ⟨i, l, opened, lot, format⟩

theorem openFormat_of_lot {i : Fin 32} {l : Lot} (opened : openLotIndex s.registry.lots = some i)
    (lot : s.registry.lots[i] = some l) : s.openFormat = some l.format := by
  unfold State.openFormat
  rw [opened, Option.bind_some, lot]
  rfl

theorem hangRod_endFrame (s : State) (link : Link) (id : Nat) (i : Fin 32) (format : Nat) :
    (s.endFrame link).hangRod id i format = (s.hangRod id i format).endFrame link := by
  by_cases none : s.admission.running.isNone = true
  · simp only [State.hangRod, endFrame_admission, if_pos none]
    exact if_pos none
  · simp only [State.hangRod, endFrame_admission, if_neg none]
    exact if_neg none

end Hang

/-- Settles O21: the checks of R69 in order, and the record that a HANG inserts. -/
theorem hangStagesTheRod : Obligations.HangStagesTheRod := by
  intro s link rod ready openFormat reason
  have reason_eq : reason = firstReason
      [(decide (rod.toNat = 0), .range), (decide (4 ≤ s.admission.rodsHeld), .full),
       ((s.rod rod.toNat).isSome, .duplicate), (s.openFormat.isNone, .noLot),
       (s.admission.wrongFormat s.openFormat, .wrongFormat)] := by
    rw [rodsHeld_eq]; rfl
  refine ⟨fun r refused => ?_, fun accepted i l opened lot => ?_⟩
  · have reply : hangReply rod.toNat (s.endFrame link) = refuse (s.endFrame link) r := by
      simp only [reason_eq, firstReason_eq_some, firstReason_nil, decide_eq_true_eq,
        decide_eq_false_iff_not] at refused
      rcases refused with ⟨zero, rfl⟩ | ⟨nonzero, ⟨full, rfl⟩ | ⟨room, ⟨known, rfl⟩ |
        ⟨fresh, ⟨noLot, rfl⟩ | ⟨some_, ⟨wrong, rfl⟩ | ⟨_, noReason⟩⟩⟩⟩⟩
      · exact hangReply_of_zero zero
      · exact hangReply_of_full nonzero full
      · exact hangReply_of_known nonzero room known
      · exact hangReply_of_noLot nonzero room fresh (Option.isNone_iff_eq_none.1 noLot)
      · obtain ⟨f, format⟩ := Option.isSome_iff_exists.1 (Option.isNone_eq_false_iff.1 some_)
        obtain ⟨i, l, opened, lot, same⟩ := openFormat_eq_some format
        have taken : s.admission.takesFormat l.format = false := by
          rw [takesFormat_eq, same, ← format, wrong]; rfl
        refine (hangReply_of_lot (s := s.endFrame link) nonzero room fresh opened lot).trans ?_
        exact if_neg (by rw [endFrame_admission, taken]; nofun)
      · cases noReason
    exact congrArg Host.Outcome.next (serve_spreader_refuse ready reply)
  · simp only [reason_eq, firstReason_eq_none, decide_eq_false_iff_not] at accepted
    obtain ⟨nonzero, room, fresh, _, right, _⟩ := accepted
    intro hung
    have taken : s.admission.takesFormat l.format = true := by
      rw [takesFormat_eq, ← openFormat_of_lot opened lot, right]; rfl
    have reply : hangReply rod.toNat (s.endFrame link) =
        accept ((s.hangRod rod.toNat i l.format).endFrame link) := by
      rw [← hangRod_endFrame]
      exact (hangReply_of_lot (s := s.endFrame link) nonzero room fresh opened lot).trans
        (if_pos taken)
    have result : s.hangRod rod.toNat i l.format =
        if s.admission.running = none then hung.recomputeZones else hung := by
      unfold State.hangRod
      rw [changeLot_of_entry lot]
      cases running : s.admission.running with
      | none => simp only [hung, running]; rfl
      | some f => simp only [hung, running]; rfl
    rw [← result]
    exact congrArg Host.Outcome.next (serve_endFrame s link (a := .accepted) ready.1
      (isSpreader_of_readyAs ready) reply)

/-! ## WITHDRAW (R71) -/

section Withdraw
variable {s : State} {id : Nat} {r : RodRecord}

theorem deleteRod_of_known {l : Lot} (known : s.rod id = some r) (lot : s.registry.lots[r.lot] = some l) :
    s.deleteRod id =
      { s with registry :=
        { rods := s.registry.rods.filter fun x => x.id != id
          lots := freeIfSpent (s.registry.lots.set r.lot (some { l with rodCount := l.rodCount - 1 }))
            r.lot } } := by
  unfold State.deleteRod
  rw [known]
  dsimp only
  rw [changeLot_of_entry lot]
  rfl

theorem withdrawReply_of_known (nonzero : ¬ id = 0) (known : s.rod id = some r) :
    withdrawReply id s =
      match r.place with
      | .staged =>
        accept { s.deleteRod id with
          admission := { s.admission with staging := s.admission.staging.filter (· != id) } }
      | .boarding => refuse s .tooLate
      | .onTrack _ _ => refuse s .state
      | .exited _ _ _ => refuse s .state := by
  unfold withdrawReply
  rw [if_neg nonzero, known] <;> rfl

theorem withdrawReply_of_unknown (nonzero : ¬ id = 0) (unknown : s.rod id = none) :
    withdrawReply id s = refuse s .notFound := by
  unfold withdrawReply
  rw [if_neg nonzero, unknown]

end Withdraw

/-- Settles O22, by the place of the rod named. -/
theorem withdrawRemovesAStagedRod : Obligations.WithdrawRemovesAStagedRod := by
  intro s link rod ready
  have refused {reason : Reason} (reply : withdrawReply rod.toNat (s.endFrame link) =
      refuse (s.endFrame link) reason) :
      exec (.withdraw link rod) s = .next (s.answered link (.refused reason)) :=
    congrArg Host.Outcome.next (serve_spreader_refuse ready reply)
  refine ⟨fun zero => refused (if_pos zero), fun nonzero unknown =>
    refused (withdrawReply_of_unknown (s := s.endFrame link) nonzero unknown), fun r nonzero known => ?_⟩
  have reply := withdrawReply_of_known (s := s.endFrame link) nonzero known
  refine ⟨fun place => ?_, fun p b place => ?_, fun b e d place => ?_, fun l place lot => ?_⟩ <;>
    rw [place] at reply
  · exact refused reply
  · exact refused reply
  · exact refused reply
  · rw [deleteRod_of_known (s := s.endFrame link) known lot] at reply
    exact congrArg Host.Outcome.next (serve_accept s link ready.1 (isSpreader_of_readyAs ready) rfl reply)

/-! ## CHANGEOVER and CANCEL_CHANGEOVER (R78, R79, R83) -/

section Changeover
variable {s : State} {link : Link} {format : Nat}

theorem holds_changeover :
    s.holds link .changeover = true ↔ s.authority.claims.changeover = some link := decide_eq_true_iff

theorem changeoverReply_of_notHeld (free : s.authority.claims.changeover ≠ some link) :
    changeoverReply link format s = refuse s .claim :=
  if_pos fun held => free (holds_changeover.1 held)

section Held
variable (held : s.authority.claims.changeover = some link)
include held

theorem changeoverReply_of_range (out : format = 0 ∨ 16 < format) :
    changeoverReply link format s = refuse s .range := by
  unfold changeoverReply
  rw [if_neg (not_not.2 (holds_changeover.2 held)), if_pos]
  rw [isFormatNumber_iff]
  omega

variable (within : ¬ (format = 0 ∨ 16 < format))
include within

theorem changeoverReply_of_mode (mode : s.admission.mode ≠ .open_) :
    changeoverReply link format s = refuse s .state := by
  unfold changeoverReply
  rw [if_neg (not_not.2 (holds_changeover.2 held)), if_neg (by rw [isFormatNumber_iff]; omega),
    if_pos mode]

variable (mode : s.admission.mode = .open_)
include mode

theorem changeoverReply_of_noRunning (none : s.admission.running = none) :
    changeoverReply link format s = refuse s .state := by
  unfold changeoverReply
  rw [if_neg (not_not.2 (holds_changeover.2 held)), if_neg (by rw [isFormatNumber_iff]; omega),
    if_neg (not_not.2 mode), none]

variable {running : Nat} (runs : s.admission.running = some running)
include runs

theorem changeoverReply_of_undefined (undefined : s.format format = none) :
    changeoverReply link format s = refuse s .notFound := by
  unfold changeoverReply
  rw [if_neg (not_not.2 (holds_changeover.2 held)), if_neg (by rw [isFormatNumber_iff]; omega),
    if_neg (not_not.2 mode), runs, undefined]

theorem changeoverReply_of_running {entry : FormatEntry} (defined : s.format format = some entry) :
    changeoverReply link format s =
      if format = running then refuse s .range
      else accept (s.setMode (.changeover format (requiredGapOf entry (s.formatFields running)))) := by
  unfold changeoverReply
  rw [if_neg (not_not.2 (holds_changeover.2 held)), if_neg (by rw [isFormatNumber_iff]; omega),
    if_neg (not_not.2 mode), runs, defined]

end Held

theorem cancelChangeoverReply_of_notHeld (free : s.authority.claims.changeover ≠ some link) :
    cancelChangeoverReply link s = refuse s .claim :=
  if_pos fun held => free (holds_changeover.1 held)

theorem cancelChangeoverReply_of_held (held : s.authority.claims.changeover = some link) :
    cancelChangeoverReply link s =
      match s.admission.mode with
      | .changeover _ _ => accept (s.setMode .open_)
      | .open_ => refuse s .state
      | .closed => refuse s .state :=
  if_neg (not_not.2 (holds_changeover.2 held))

end Changeover

/-- Settles O23: the checks of R78 in order, and the mode that a cancellation meets. -/
theorem changeoverAndItsCancellation : Obligations.ChangeoverAndItsCancellation := by
  refine ⟨?_, fun s link ready bound => ?_⟩
  · intro s link format ready bound reason
    have may : isSupervisorOrSpreader s.links[link].class_ = true :=
      isSupervisorOrSpreader_iff.2 bound.symm
    refine ⟨fun r refused => ?_, fun accepted running pf rf runs pending runningFields => ?_⟩
    · have reply : changeoverReply link format.toNat (s.endFrame link) =
          refuse (s.endFrame link) r := by
        simp only [reason, firstReason_eq_some, firstReason_nil, decide_eq_true_eq,
          decide_eq_false_iff_not, not_not] at refused
        rcases refused with ⟨free, rfl⟩ | ⟨held, ⟨out, rfl⟩ | ⟨within, ⟨mode, rfl⟩ | ⟨mode, ⟨none, rfl⟩ |
          ⟨some_, ⟨undefined, rfl⟩ | ⟨defined, ⟨same, rfl⟩ | ⟨_, noReason⟩⟩⟩⟩⟩⟩
        · exact changeoverReply_of_notHeld (s := s.endFrame link) free
        · exact changeoverReply_of_range (s := s.endFrame link) held out
        · exact changeoverReply_of_mode (s := s.endFrame link) held within mode
        · exact changeoverReply_of_noRunning (s := s.endFrame link) held within mode
            (Option.isNone_iff_eq_none.1 none)
        · obtain ⟨f, runs⟩ := Option.isSome_iff_exists.1 (Option.isNone_eq_false_iff.1 some_)
          exact changeoverReply_of_undefined (s := s.endFrame link) held within mode runs
            (Option.isNone_iff_eq_none.1 undefined)
        · obtain ⟨entry, found⟩ := Option.isSome_iff_exists.1 (Option.isNone_eq_false_iff.1 defined)
          exact (changeoverReply_of_running (s := s.endFrame link) held within mode same found).trans
            (if_pos rfl)
        · cases noReason
      exact congrArg Host.Outcome.next (serve_refuse s link ready may reply)
    · simp only [reason, firstReason_eq_none, decide_eq_false_iff_not, not_not] at accepted
      obtain ⟨held, within, mode, _, _, apart, _⟩ := accepted
      have fields : s.formatFields running = rf := by
        unfold State.formatFields; rw [runningFields]; rfl
      have reply : changeoverReply link format.toNat (s.endFrame link) =
          accept ((s.endFrame link).setMode (.changeover format.toNat (requiredGapOf pf rf))) := by
        rw [← fields]
        exact (changeoverReply_of_running (s := s.endFrame link) held within mode runs pending).trans
          (if_neg fun same : format.toNat = running => apart (by rw [same]; exact runs))
      exact congrArg Host.Outcome.next (serve_accept s link
        (t := s.setMode (.changeover format.toNat (requiredGapOf pf rf))) ready may rfl reply)
  · have may : isSupervisorOrSpreader s.links[link].class_ = true :=
      isSupervisorOrSpreader_iff.2 bound.symm
    refine ⟨fun free => ?_, fun held => ?_⟩
    · exact congrArg Host.Outcome.next (serve_refuse s link ready may
        (cancelChangeoverReply_of_notHeld (s := s.endFrame link) free))
    · have reply := cancelChangeoverReply_of_held (s := s.endFrame link) held
      refine ⟨fun mode => ?_, fun p g mode => ?_⟩
      · have refused : cancelChangeoverReply link (s.endFrame link) =
            refuse (s.endFrame link) .state := by
          rcases mode with mode | mode <;> rw [endFrame_admission, mode] at reply <;> exact reply
        exact congrArg Host.Outcome.next (serve_refuse s link ready may refused)
      · rw [endFrame_admission, mode] at reply
        exact congrArg Host.Outcome.next (serve_accept s link (t := s.setMode .open_) ready may rfl reply)

/-! ## The boarding choice and the beginning of a step (R30, R31, R73, R74) -/

section Choice
variable {a : Admission} {id format : Nat}

theorem choiceFor_open (mode : a.mode = .open_) :
    a.choiceFor id (some format) = if a.running = some format then .head id else .gap true := by
  unfold Admission.choiceFor
  rw [mode]
  simp

theorem choiceFor_changeover {p g : Nat} (mode : a.mode = .changeover p g) :
    a.choiceFor id (some format) =
      if a.running = some format then .head id
      else if format = p then if g ≤ a.trailing then .head id else .gap false
      else .gap true := by
  unfold Admission.choiceFor
  rw [mode]
  simp

theorem choiceFor_closed {format : Option Nat} (mode : a.mode = .closed) :
    a.choiceFor id format = .gap false := by
  unfold Admission.choiceFor
  rw [mode]

end Choice

theorem boardingChoice_of_head {s : State} {id : Nat} {rest : List Nat} {r : RodRecord}
    (staging : s.admission.staging = id :: rest) (known : s.rod id = some r) :
    s.boardingChoice = s.admission.choiceFor id (some r.format) := by
  unfold State.boardingChoice State.rodFormat
  rw [staging]
  dsimp only
  rw [known]
  rfl

theorem exitBlocked_iff (s : State) :
    s.exitBlocked = true ↔ s.track.lastSlot.isSome = true ∧ 8 ≤ s.exitQueue.length := by
  unfold State.exitBlocked
  rw [Bool.and_eq_true, decide_eq_true_iff]
  rfl

/-- Settles O24, by the mode of the admission unit and the head of the queue, and by the exit. -/
theorem boardingChoiceAndStepBeginning : Obligations.BoardingChoiceAndStepBeginning := by
  refine ⟨fun s => ⟨fun empty => ?_, fun id rest r staging known => ?_⟩,
    fun s => ⟨fun blocked => ?_, fun free => ?_, fun id choice => ?_, fun unintended choice => ?_⟩⟩
  · unfold State.boardingChoice
    rw [empty]
  · rw [boardingChoice_of_head staging known]
    refine ⟨fun mode same => ?_, fun mode other => ?_, fun p g mode => ?_, choiceFor_closed⟩
    · rw [choiceFor_open mode, if_pos same]
    · rw [choiceFor_open mode, if_neg other]
    · rw [choiceFor_changeover mode]
      refine ⟨fun same => if_pos same, fun other pending reached => ?_,
        fun other pending short => ?_, fun other neither => ?_⟩
      · rw [if_neg other, if_pos pending, if_pos reached]
      · rw [if_neg other, if_pos pending, if_neg (Nat.not_le.2 short)]
      · rw [if_neg other, if_neg neither]
  · unfold State.beginStep
    rw [if_pos ((exitBlocked_iff s).2 blocked)]
    rfl
  · unfold State.beginStep
    rw [if_neg]
    rw [exitBlocked_iff]
    rintro ⟨rod, full⟩
    rcases free with none | room
    · rw [none] at rod; cases rod
    · omega
  · unfold State.enterAdvancing State.bindChoice
    rw [choice]
    rfl
  · unfold State.enterAdvancing State.bindChoice
    rw [choice]
    rfl

end Sys2Proof.Machine
end

section
/-! PROOFS. The requests on motion and on the router's routes (R27, R42, R56, R57, R60, R164, R166). -/

namespace Sys2Proof.Machine

/-! ## START (R56, R57) -/

section Start
variable {s : State}

theorem startReply_of_moving (moving : s.track.motion ≠ .stopped) : startReply s = refuse s .state := by
  unfold startReply
  split
  · next stopped => exact absurd stopped moving
  all_goals rfl

theorem startReply_of_stopped (stopped : s.track.motion = .stopped) :
    startReply s =
      if ¬ s.authority.lock = true ∨ s.track.length = 0 then refuse s .notReady
      else accept ((s.mapTrack TrackControl.start).setMode s.admission.mode.reopened) := by
  unfold startReply
  rw [stopped]

theorem notReady_iff :
    (¬ s.authority.lock = true ∨ s.track.length = 0) ↔
      (s.authority.lock = false ∨ s.track.slots = []) := by
  rw [Bool.not_eq_true, TrackControl.length, List.length_eq_zero_iff]

theorem reopened_eq (m : AdmissionMode) : m.reopened = if m = .closed then .open_ else m := by
  cases m <;> rfl

theorem start_of_free {t : TrackControl} (free : t.holdLine = false) :
    t.start = { t with motion := .running, cadenceCount := 0 } := by
  unfold TrackControl.start
  dsimp only
  rw [if_neg (by rw [free]; nofun)]

/-- An asserted HOLD line holds a line that rests at once (R56). -/
theorem start_of_held {t : TrackControl} (held : t.holdLine = true) (idle : t.step = .idle)
    (causes : t.causes = {}) :
    t.start = { t with
      motion := .held, causes := { line := true }, owed := false, cadenceCount := 0 } := by
  unfold TrackControl.start
  dsimp only
  rw [if_pos held, addCause_of_waiting (by simp only [causes]; rfl) rfl (by simp [idle]) (by simp [idle])]
  simp only [causes, idle, Causes.insert]

end Start

/-- Settles O25, by the motion state, and by the level of the HOLD line. -/
theorem startRunsAStoppedLine : Obligations.StartRunsAStoppedLine := by
  intro s link ready reason mode
  have accepted (none : reason = none) : exec (.start link) s =
      .next (((s.mapTrack TrackControl.start).setMode mode).answered link .accepted) := by
    simp only [reason, firstReason_eq_none, decide_eq_false_iff_not, not_not] at none
    obtain ⟨stopped, prepared, _⟩ := none
    have reply : startReply (s.endFrame link) = accept
        (((s.endFrame link).mapTrack TrackControl.start).setMode s.admission.mode.reopened) :=
      (startReply_of_stopped (s := s.endFrame link) stopped).trans
        (if_neg fun unready => prepared (notReady_iff.1 unready))
    rw [reopened_eq] at reply
    exact congrArg Host.Outcome.next (serve_accept s link
      (t := (s.mapTrack TrackControl.start).setMode mode) ready.1 (isSupervisor_of_readyAs ready) rfl
      reply)
  refine ⟨fun r refused => ?_, fun none free => ?_, fun none held idle causes => ?_⟩
  · have reply : startReply (s.endFrame link) = refuse (s.endFrame link) r := by
      simp only [reason, firstReason_eq_some, firstReason_nil, decide_eq_true_eq,
        decide_eq_false_iff_not, not_not] at refused
      rcases refused with ⟨moving, rfl⟩ | ⟨stopped, ⟨unready, rfl⟩ | ⟨_, noReason⟩⟩
      · exact startReply_of_moving moving
      · exact (startReply_of_stopped (s := s.endFrame link) stopped).trans
          (if_pos (notReady_iff.2 unready))
      · cases noReason
    exact congrArg Host.Outcome.next (serve_supervisor_refuse ready reply)
  · rw [accepted none, State.mapTrack, start_of_free free]
    rfl
  · rw [accepted none, State.mapTrack, start_of_held held idle causes]
    rfl

/-! ## STOP (R60, R62) -/

section Stop
variable {s : State}

theorem atRest_iff (t : TrackControl) : t.atRest = true ↔ (∀ x ∈ t.slots, x = none) ∧ t.step = .idle := by
  simp [TrackControl.atRest, TrackControl.isEmpty]

theorem stopReply_of_rest (moving : s.track.motion = .running ∨ s.track.motion = .held)
    (rest : s.track.atRest = true) : stopReply s = accept s.stopLine := by
  unfold stopReply
  rcases moving with m | m <;> rw [m] <;> exact if_pos rest

theorem stopReply_of_noRest
    (noRest : ¬ ((s.track.motion = .running ∨ s.track.motion = .held) ∧ s.track.atRest = true)) :
    stopReply s = refuse s .state := by
  unfold stopReply
  split
  · next m => exact if_neg fun rest => noRest ⟨.inl m, rest⟩
  · next m => exact if_neg fun rest => noRest ⟨.inr m, rest⟩
  all_goals rfl

theorem stopLine_of_noDrain (drain : s.authority.drain = false) :
    s.stopLine = s.mapTrack TrackControl.enterStopped := by
  unfold State.stopLine State.checkDrain
  rw [if_neg]
  rintro ⟨draining, _⟩
  rw [mapTrack_authority, drain] at draining
  cases draining

theorem stopLine_of_drain (drain : s.authority.drain = true) (empty : s.track.isEmpty = true) :
    s.stopLine = ((s.mapTrack TrackControl.enterStopped).mapAuthority fun a =>
      { a with drain := false }).setHolder .purge none := by
  unfold State.stopLine State.checkDrain
  rw [if_pos ⟨drain, empty⟩]
  rfl

end Stop

/-- Settles O28, by whether the line rests, and by whether a drain is in progress. -/
theorem stopStopsAnEmptyIdleLine : Obligations.StopStopsAnEmptyIdleLine := by
  intro s link ready atRest stopped
  have rests : atRest ↔ (s.track.motion = .running ∨ s.track.motion = .held) ∧ s.track.atRest = true := by
    rw [atRest_iff]
  refine ⟨fun noRest => ?_, fun rest drain => ?_, fun rest drain => ?_⟩
  · have reply : stopReply (s.endFrame link) = refuse (s.endFrame link) .state :=
      stopReply_of_noRest fun rest => noRest (rests.2 rest)
    exact congrArg Host.Outcome.next (serve_supervisor_refuse ready reply)
  · obtain ⟨moving, still⟩ := rests.1 rest
    have reply := stopReply_of_rest (s := s.endFrame link) moving still
    rw [stopLine_of_noDrain (s := s.endFrame link) drain] at reply
    exact congrArg Host.Outcome.next (serve_supervisor_mapTrack ready reply)
  · obtain ⟨moving, still⟩ := rests.1 rest
    have empty : s.track.isEmpty = true := by
      unfold TrackControl.atRest at still
      exact (Bool.and_eq_true_iff.1 still).1
    have reply := stopReply_of_rest (s := s.endFrame link) moving still
    rw [stopLine_of_drain (s := s.endFrame link) drain empty] at reply
    exact congrArg Host.Outcome.next (serve_accept s link
      (t := ((s.mapTrack TrackControl.enterStopped).mapAuthority fun a =>
        { a with drain := false }).setHolder .purge none) ready.1 (isSupervisor_of_readyAs ready) rfl
      reply)

/-! ## SET_CADENCE, SET_ROUTE and SILENCE (R27, R164, R166) -/

section Codes
variable {b : Byte}

theorem eventClassOf_of_out (out : b.toNat = 0 ∨ 12 < b.toNat) : eventClassOf b = none := by
  unfold eventClassOf
  split
  any_goals omega
  rfl

theorem destinationOf_of_out (out : 3 < b.toNat) : destinationOf b = none := by
  unfold destinationOf
  split
  any_goals omega
  rfl

/-- The event class of a number is the one whose entry stands one below it. -/
theorem eventClassOf_of_eq {i : Fin 12} (e : b.toNat = i.val + 1) :
    ∃ c, eventClassOf b = some c ∧ c.index = i := by
  unfold eventClassOf
  rw [e]
  fin_cases i <;> exact ⟨_, rfl, rfl⟩

theorem destinationOf_of_eq {d : Destination} (e : b.toNat = d.code) : destinationOf b = some d := by
  unfold destinationOf
  rw [e]
  cases d <;> rfl

end Codes

/-- Settles O29: what each of the three requests writes. -/
theorem setCadenceSetRouteAndSilence : Obligations.SetCadenceSetRouteAndSilence := by
  refine ⟨fun s link compare ready => ?_, fun s link ready => ⟨fun eventClass destination out => ?_,
    fun eventClass destination i d number code => ?_, ?_⟩⟩
  · exact congrArg Host.Outcome.next (serve_supervisor_mapTrack ready
      (change := TrackControl.setCadence compare.toNat) rfl)
  · have reply : setRouteReply eventClass destination (s.endFrame link) =
        refuse (s.endFrame link) .range := by
      unfold setRouteReply
      rcases out with zero | high | high
      · rw [eventClassOf_of_out (.inl zero)]
      · rw [eventClassOf_of_out (.inr high)]
      · rw [destinationOf_of_out high]
        cases eventClassOf eventClass <;> rfl
    exact congrArg Host.Outcome.next (serve_supervisor_refuse ready reply)
  · obtain ⟨c, class_, index⟩ := eventClassOf_of_eq number
    have named : destinationOf destination = some d :=
      destinationOf_of_eq (code.trans (by cases d <;> rfl))
    subst index
    have reply : setRouteReply eventClass destination (s.endFrame link) =
        accept { s.endFrame link with router := { s.router with
          routes := s.router.routes.set c.index d } } := by
      unfold setRouteReply
      rw [class_, named]
      rfl
    exact congrArg Host.Outcome.next (serve_accept s link ready.1 (isSupervisor_of_readyAs ready) rfl
      (t := { s with router := { s.router with routes := s.router.routes.set c.index d } }) reply)
  · exact congrArg Host.Outcome.next (serve_accept s link ready.1 (isSupervisor_of_readyAs ready) rfl
      (t := { s with router := { s.router with horn := false } }) rfl)

/-! ## CONFIRM_STEP and ABANDON_STEP (R41, R42) -/

theorem abandonSuspended_of_rod {s : State} {id : Nat} (bound : s.admission.boarding = .rod id) :
    s.abandonSuspended =
      { s with
        admission := { s.admission with staging := id :: s.admission.staging, boarding := .empty }
        registry := { s.registry with
          rods := updateRod id (fun r => { r with place := .staged }) s.registry.rods }
        track := { s.track with step := .idle } } := by
  unfold State.abandonSuspended
  rw [bound]

theorem abandonSuspended_of_gap {s : State} (bound : s.admission.boarding = .gap) :
    s.abandonSuspended =
      { s with
        admission := { s.admission with boarding := .empty }
        track := { s.track with step := .idle } } := by
  unfold State.abandonSuspended
  rw [bound]

/-- Settles O33, by the sub-state, and by what is bound. -/
theorem abandonStepReturnsTheBoundRod : Obligations.AbandonStepReturnsTheBoundRod := by
  refine ⟨fun s link ready notSuspended => ⟨?_, ?_⟩, fun s link ready suspended =>
    ⟨fun id bound => ?_, fun bound => ?_⟩⟩
  · exact congrArg Host.Outcome.next (serve_supervisor_refuse ready
      (if_neg notSuspended : confirmStepReply (s.endFrame link) = _))
  · exact congrArg Host.Outcome.next (serve_supervisor_refuse ready
      (if_neg notSuspended : abandonStepReply (s.endFrame link) = _))
  · have reply : abandonStepReply (s.endFrame link) = accept (s.endFrame link).abandonSuspended :=
      if_pos suspended
    rw [abandonSuspended_of_rod (s := s.endFrame link) bound] at reply
    exact congrArg Host.Outcome.next
      (serve_accept s link ready.1 (isSupervisor_of_readyAs ready) rfl reply)
  · have reply : abandonStepReply (s.endFrame link) = accept (s.endFrame link).abandonSuspended :=
      if_pos suspended
    rw [abandonSuspended_of_gap (s := s.endFrame link) bound] at reply
    exact congrArg Host.Outcome.next
      (serve_accept s link ready.1 (isSupervisor_of_readyAs ready) rfl reply)

end Sys2Proof.Machine
end

section
/-! PROOFS. The end of a step: ADVANCE DONE in ADVANCING and in SUSPENDED, and CONFIRM_STEP (R32, R33,
R35, R40, R41, R55, R81, R86, R126). -/

namespace Sys2Proof.Machine

/-! ## Events at the track controller -/

/-- A cause that has been added once adds nothing more. -/
theorem addCause_addCause (k : Cause) (t : TrackControl) :
    (t.addCause k).addCause k = t.addCause k := by
  have has : (t.causes.insert k).has k = true := by cases k <;> rfl
  rcases addCause_cases k t with ⟨same, _⟩ | ⟨_, ⟨_, _, e⟩ | ⟨_, _, e⟩ | ⟨_, e⟩⟩
  · rw [same, same]
  all_goals
    rw [e]
    exact addCause_of_has has

/-- Where a class raised is routed to STOP, routing adds the EVENT cause, once. -/
theorem routeAll_track_of_stop {s : State} {cs : List EventClass}
    (stop : ∃ c ∈ cs, s.router.routes[c.index] = .stop) :
    (s.routeAll cs).track = s.track.addCause .event := by
  induction cs generalizing s with
  | nil => obtain ⟨c, none, _⟩ := stop; cases none
  | cons c cs ih =>
    rw [routeAll_cons]
    by_cases later : ∃ d ∈ cs, s.router.routes[d.index] = .stop
    · rw [ih (s := s.route c) (by simpa using later), route_track]
      split
      · exact addCause_addCause .event s.track
      · rfl
    · have first : s.router.routes[c.index] = .stop := by
        obtain ⟨d, member, routed⟩ := stop
        rcases List.mem_cons.1 member with rfl | member
        · exact routed
        · exact absurd ⟨d, member, routed⟩ later
      rw [routeAll_track_of_noStop, route_track, if_pos first]
      intro d member
      rw [route_routes]
      exact fun routed => later ⟨d, member, routed⟩

/-- Events leave a line that is STOPPED. -/
theorem routeAll_track_of_stopped {s : State} (stopped : s.track.motion = .stopped)
    (cs : List EventClass) : (s.routeAll cs).track = s.track := by
  refine routeAll_track cs s (fun t => t = s.track) rfl fun t same => ?_
  rw [same]
  exact addCause_of_stopped .event s.track stopped

/-- Events leave a line that is HELD in its sub-state, with its MOTION cause. -/
theorem routeAll_track_of_held {s : State} (held : s.track.motion = .held) (cs : List EventClass) :
    (s.routeAll cs).track.step = s.track.step ∧ (s.routeAll cs).track.motion = .held ∧
      (s.routeAll cs).track.causes.motion = s.track.causes.motion := by
  refine routeAll_track cs s
    (fun t => t.step = s.track.step ∧ t.motion = .held ∧ t.causes.motion = s.track.causes.motion)
    ⟨rfl, held, rfl⟩ fun t kept => ?_
  obtain ⟨step, motion, causes⟩ := kept
  cases has : t.causes.has .event with
  | true => rw [addCause_of_has has]; exact ⟨step, motion, causes⟩
  | false => rw [addCause_of_onHold has (.inr motion)]; exact ⟨step, motion, causes⟩

/-! ## The rise of the ADVANCE DONE line -/

/-- The part with the ADVANCE DONE line asserted (R32). -/
abbrev State.doneRisen (s : State) : State :=
  { s with track := { s.track with advanceDoneLine := true } }

section Arrival
variable {s : State}

theorem RodInv.doneRisen (R : RodInv s) : RodInv s.doneRisen :=
  (rodInv_iff s.doneRisen).2 ((rodInv_iff s).1 R)

theorem PlaceInv.doneRisen (P : PlaceInv s) : PlaceInv s.doneRisen :=
  P.mapTrack (f := fun t => { t with advanceDoneLine := true }) rfl .rfl

theorem exec_advanceDone_of_low (low : s.track.advanceDoneLine = false) :
    exec .advanceDone s = .next (settleEvents s.doneRisen.advanceArrives) :=
  if_neg (by rw [low]; nofun)

variable (low : s.track.advanceDoneLine = false)
include low

theorem exec_advanceDone_of_advancing {n : Nat} (advancing : s.track.step = .advancing n) :
    exec .advanceDone s = .next (s.doneRisen.shift.1.finishShift.1.routeAll
      (s.exitEvents ++ s.doneRisen.shift.1.finishShift.2)) := by
  have arrives : s.doneRisen.advanceArrives = s.doneRisen.normalShift := by
    unfold State.advanceArrives
    rw [advancing]
  have raised : s.doneRisen.shift.2 = s.exitEvents := takeExit_events s.doneRisen
  rw [exec_advanceDone_of_low low, arrives, ← raised]
  rfl

theorem exec_advanceDone_of_suspended (suspended : s.track.step = .suspended) :
    exec .advanceDone s = .next (s.doneRisen.completeSuspended.1.routeAll
      (s.exitEvents ++ [.lateAdvance])) := by
  have arrives : s.doneRisen.advanceArrives =
      (s.doneRisen.completeSuspended.1, s.doneRisen.completeSuspended.2 ++ [.lateAdvance]) := by
    unfold State.advanceArrives
    rw [suspended]
  have raised : s.doneRisen.completeSuspended.2 = s.exitEvents := takeExit_events s.doneRisen
  rw [exec_advanceDone_of_low low, arrives, ← raised]
  rfl

end Arrival

theorem finishShift_of_running {u : State} (running : u.track.motion = .running) :
    u.finishShift = u.beginSettling := by
  unfold State.finishShift
  rw [running]

theorem finishShift_of_holding {u : State} (holding : u.track.motion = .holding) :
    u.finishShift = ({ u with track :=
      { u.track with motion := .held, step := .idle, owed := false, cadenceCount := 0 } }, []) := by
  unfold State.finishShift
  rw [holding]
  rfl

theorem finishShift_of_stopped {u : State} (stopped : u.track.motion = .stopped) :
    u.finishShift = ({ u with track := { u.track with step := .idle } }, []) := by
  unfold State.finishShift
  rw [stopped]
  rfl

/-- Settles O30, by whether the drain ends, by the motion state, and by the settle interval. -/
theorem advanceDoneAppliesTheShift : Obligations.AdvanceDoneAppliesTheShift := by
  intro s n R P low advancing moving
  have arrives := exec_advanceDone_of_advancing low advancing
  refine ⟨s.doneRisen.shift.1, shifted_shift _ R.doneRisen P.doneRisen, ?_⟩
  have drained (drain : s.drainEnds = true) := shift_track_of_drain (s := s.doneRisen) drain
  have shifted (drain : s.drainEnds = false) := shift_track_of_noDrain (s := s.doneRisen) drain
  have routes : s.doneRisen.shift.1.router = s.router := shift_router s.doneRisen
  generalize s.doneRisen.shift.1 = u at arrives drained shifted routes
  intro ends
  refine ⟨fun drain => ?_, fun drain holding => ?_, fun drain running interval => ?_,
    fun drain running interval => ⟨fun owed => ?_, fun owed => ?_⟩⟩
  · have stopped : u.track.motion = .stopped := by rw [drained drain]
    rw [finishShift_of_stopped stopped, List.append_nil] at arrives
    exact ⟨arrives, routeAll_track_of_stopped
      (s := { u with track := { u.track with step := .idle } }) stopped s.exitEvents⟩
  · rw [finishShift_of_holding (by rw [shifted drain]; exact holding), List.append_nil] at arrives
    exact arrives
  · have settles : u.track.settleInterval = s.track.settleInterval := by rw [shifted drain]
    have runs : u.track.motion = .running := by rw [shifted drain]; exact running
    rw [finishShift_of_running runs, State.beginSettling, settles, if_neg interval,
      List.append_nil] at arrives
    refine ⟨arrives, fun noEvent stop => ?_⟩
    have causes : u.track.causes = s.track.causes := by rw [shifted drain]
    refine (routeAll_track_of_stop (by rw [routes]; exact stop)).trans ?_
    refine (addCause_of_waiting
      (t := { u.track with step := .settling s.track.settleInterval }) ?_ runs (fun _ => nofun)
      nofun).trans ?_
    · exact (congrArg (Causes.has · .event) causes).trans noEvent
    · rw [← causes]; rfl
  · have runs : u.track.motion = .running := by rw [shifted drain]; exact running
    rw [finishShift_of_running runs, State.beginSettling, if_pos (by rw [shifted drain]; exact interval),
      State.endSettling, if_neg (by rw [shifted drain]; simp [owed]), List.append_nil] at arrives
    exact arrives
  · have runs : u.track.motion = .running := by rw [shifted drain]; exact running
    rw [finishShift_of_running runs, State.beginSettling, if_pos (by rw [shifted drain]; exact interval),
      State.endSettling, if_pos (by rw [shifted drain]; exact owed)] at arrives
    exact arrives

/-! ## The completion of a changeover by a shift (R81, R86) -/

/-- What a part leaves of the admission unit and of the CHANGEOVER claim where it comes from `s` by a
shift. -/
structure ShiftsAdmission (s t : State) : Prop where
  running : t.admission.running = s.shift.1.admission.running
  mode : t.admission.mode = s.shift.1.admission.mode
  claim : t.authority.claims.changeover = s.shift.1.authority.claims.changeover

section Completed
variable {s t : State}

theorem completedFormat_of_pending {p g id : Nat} {r : RodRecord}
    (mode : s.admission.mode = .changeover p g) (boards : s.admission.boarding = .rod id)
    (known : s.rod id = some r) (pending : r.format = p) : s.completedFormat = some p := by
  unfold State.completedFormat State.rodFormat
  rw [mode, boards]
  dsimp only
  rw [known]
  exact if_pos (congrArg some pending)

theorem completedFormat_of_gap (boards : s.admission.boarding = .gap) : s.completedFormat = none := by
  unfold State.completedFormat
  rw [boards]
  cases s.admission.mode <;> rfl

theorem completedFormat_of_other {id : Nat} {r : RodRecord} (boards : s.admission.boarding = .rod id)
    (known : s.rod id = some r) (other : ∀ p g, s.admission.mode = .changeover p g → r.format ≠ p) :
    s.completedFormat = none := by
  unfold State.completedFormat State.rodFormat
  rw [boards]
  cases mode : s.admission.mode with
  | changeover p g =>
    dsimp only
    rw [known]
    exact if_neg fun same => other p g mode (Option.some.inj same)
  | open_ => rfl
  | closed => rfl

theorem ShiftsAdmission.of_completed (h : ShiftsAdmission s t) {p : Nat}
    (completed : s.completedFormat = some p) :
    t.admission.running = some p ∧ t.admission.mode = .open_ ∧
      t.authority.claims.changeover = none := by
  obtain ⟨running, mode, claim⟩ := h
  rw [running, mode, claim, shift_admission_eq, shift_authority, completesChangeover_eq, completed]
  exact ⟨rfl, rfl, rfl⟩

theorem ShiftsAdmission.of_none (h : ShiftsAdmission s t) (none : s.completedFormat = none) :
    t.admission.running = s.admission.running ∧ t.admission.mode = s.admission.mode ∧
      t.authority.claims.changeover = s.authority.claims.changeover := by
  obtain ⟨running, mode, claim⟩ := h
  rw [running, mode, claim, shift_admission_eq, shift_authority, completesChangeover_eq, none]
  exact ⟨rfl, rfl, rfl⟩

theorem ShiftsAdmission.route (h : ShiftsAdmission s t) (cs : List EventClass) :
    ShiftsAdmission s (t.routeAll cs) := by
  obtain ⟨running, mode, claim⟩ := h
  exact ⟨by rw [routeAll_admission, running], by rw [routeAll_admission, mode],
    by rw [routeAll_authority, claim]⟩

theorem shiftsAdmission_normal (s : State) : ShiftsAdmission s s.shift.1.finishShift.1 := by
  obtain ⟨mode, running⟩ := finishShift_keeps_admission s.shift.1
  exact ⟨running, mode, by rw [finishShift_authority]⟩

end Completed

/-- The answer of CONFIRM_STEP in SUSPENDED: the completion, its events, ACCEPTED (R41). -/
theorem exec_confirmStep {s : State} {link : Link} (ready : s.readyAs link .supervisor)
    (suspended : s.track.step = .suspended) :
    exec (.confirmStep link) s =
      .next ((s.completeSuspended.1.routeAll s.exitEvents).answered link .accepted) := by
  have reply : confirmStepReply (s.endFrame link) =
      accept ((s.completeSuspended.1.routeAll s.exitEvents).endFrame link) := by
    have raised : s.completeSuspended.2 = s.exitEvents := takeExit_events s
    refine (if_pos suspended).trans ?_
    rw [completeSuspended_endFrame, ← routeAll_endFrame, ← raised]
    rfl
  exact congrArg Host.Outcome.next
    (serve_endFrame s link (a := .accepted) ready.1 (isSupervisor_of_readyAs ready) reply)

/-- Settles O31: each of the three parts is one that a shift leaves, whose completed format is the
pending one or none. -/
theorem pendingFormatBoardingCompletesTheChangeover :
    Obligations.PendingFormatBoardingCompletesTheChangeover := by
  intro s link n completes
  have completes_of {t : State} (h : ShiftsAdmission s t) : completes t := by
    refine ⟨fun p g id r mode boards known pending =>
      h.of_completed (completedFormat_of_pending mode boards known pending), fun other => h.of_none ?_⟩
    rcases other with gap | ⟨id, r, boards, known, other⟩
    · exact completedFormat_of_gap gap
    · exact completedFormat_of_other boards known other
  have risen {t : State} (h : ShiftsAdmission s.doneRisen t) : ShiftsAdmission s t := by
    obtain ⟨running, mode, claim⟩ := h
    rw [shift_admission] at running mode
    rw [shift_authority] at claim
    exact ⟨by rw [running, shift_admission]; rfl, by rw [mode, shift_admission]; rfl,
      by rw [claim, shift_authority]; rfl⟩
  have late (u : State) : ShiftsAdmission u u.completeSuspended.1 := ⟨rfl, rfl, rfl⟩
  refine ⟨fun low advancing => ⟨_, exec_advanceDone_of_advancing low advancing, ?_⟩,
    fun low suspended => ⟨_, exec_advanceDone_of_suspended low suspended, ?_⟩,
    fun ready suspended => ⟨_, exec_confirmStep ready suspended, ?_⟩⟩
  · exact completes_of ((risen (shiftsAdmission_normal s.doneRisen)).route _)
  · exact completes_of ((risen (late s.doneRisen)).route _)
  · obtain ⟨running, mode, claim⟩ := (late s).route s.exitEvents
    exact completes_of ⟨running, mode, claim⟩

/-! ## The completion of a suspended step (R40, R41) -/

theorem completeSuspended_track (s : State) :
    s.completeSuspended.1.track = { s.shift.1.track with step := .idle } := rfl

section Rests
variable {s : State} (held : s.track.motion = .held) (cs : List EventClass)

/-- Where the drain ends, the line rests STOPPED whatever is raised. -/
theorem completed_track_of_drain (drain : s.drainEnds = true) :
    (s.completeSuspended.1.routeAll cs).track.step = .idle ∧
      (s.completeSuspended.1.routeAll cs).track.motion = .stopped ∧
      (s.completeSuspended.1.routeAll cs).track.causes = {} := by
  have stopped : s.completeSuspended.1.track.motion = .stopped := by
    rw [completeSuspended_track, shift_track_of_drain drain]
  rw [routeAll_track_of_stopped stopped, completeSuspended_track, shift_track_of_drain drain]
  exact ⟨rfl, rfl, rfl⟩

include held

/-- Where no drain ends, the line rests HELD whatever is raised. -/
theorem completed_track_of_noDrain (drain : s.drainEnds = false) :
    (s.completeSuspended.1.routeAll cs).track.step = .idle ∧
      (s.completeSuspended.1.routeAll cs).track.motion = .held ∧
      (s.completeSuspended.1.routeAll cs).track.causes.motion = s.track.causes.motion := by
  have track := completeSuspended_track s
  rw [shift_track_of_noDrain drain] at track
  have rests := routeAll_track_of_held (s := s.completeSuspended.1) (by rw [track]; exact held) cs
  rw [track] at rests
  exact rests

theorem completed_rests :
    (s.completeSuspended.1.routeAll cs).track.step = .idle ∧
      (s.drainEnds = false → (s.completeSuspended.1.routeAll cs).track.motion = .held ∧
        (s.completeSuspended.1.routeAll cs).track.causes.motion = s.track.causes.motion) ∧
      (s.drainEnds = true → (s.completeSuspended.1.routeAll cs).track.motion = .stopped ∧
        (s.completeSuspended.1.routeAll cs).track.causes = {}) := by
  refine ⟨?_, fun drain => (completed_track_of_noDrain held cs drain).2,
    fun drain => (completed_track_of_drain cs drain).2⟩
  cases drain : s.drainEnds with
  | true => exact (completed_track_of_drain cs drain).1
  | false => exact (completed_track_of_noDrain held cs drain).1

end Rests

/-- Settles O32: both completions are the shift, the marks and the idle step, and events. -/
theorem suspendedStepIsCompleted : Obligations.SuspendedStepIsCompleted := by
  intro s link R P suspended held late completed rests
  refine ⟨fun low => ⟨s.doneRisen.shift.1, _, shifted_shift _ R.doneRisen P.doneRisen,
      exec_advanceDone_of_suspended low suspended, rfl, ?_⟩,
    fun ready => ⟨s.shift.1, _, shifted_shift s R P, exec_confirmStep ready suspended, rfl, ?_⟩⟩
  · exact completed_rests (s := s.doneRisen) held _
  · exact completed_rests held s.exitEvents

end Sys2Proof.Machine
end

section
/-! PROOFS. The lines and the timers: the edges of ADVANCE DONE and HOLD, the cadence, the timers of the
sub-states and the base tick (R25, R26, R28, R32, R35, R38, R45, R51, R52, R114, R177). -/

namespace Sys2Proof.Machine

/-! ## The lines (R32, R51, R52) -/

section Lines
variable {s : State}

theorem exec_advanceDone_of_stray (low : s.track.advanceDoneLine = false)
    (notAdvancing : ∀ n, s.track.step ≠ .advancing n) (notSuspended : s.track.step ≠ .suspended) :
    exec .advanceDone s = .next (s.doneRisen.route .strayAdvance) := by
  have arrives : s.doneRisen.advanceArrives = (s.doneRisen, [.strayAdvance]) := by
    unfold State.advanceArrives
    split
    · next n advancing => exact absurd advancing (notAdvancing n)
    · next suspended => exact absurd suspended notSuspended
    all_goals rfl
  rw [exec_advanceDone_of_low low, arrives]
  rfl

theorem holdLineRises_of_high {t : TrackControl} (high : t.holdLine = true) :
    t.holdLineRises = t := if_pos high

theorem holdLineRises_of_low {t : TrackControl} (low : t.holdLine = false) :
    t.holdLineRises = { t with holdLine := true }.addCause .line := if_neg (by rw [low]; nofun)

/-- What the rise of a negated HOLD line makes of the track controller. -/
theorem exec_holdLineRise {t : TrackControl} (low : s.track.holdLine = false)
    (adds : { s.track with holdLine := true }.addCause .line = t) :
    exec .holdLineRise s = .next { s with track := t } := by
  rw [← adds, ← holdLineRises_of_low low]
  rfl

end Lines

/-- Settles O34, by the level of each line, and by the motion state and the sub-state. -/
theorem inputLinesActOnTheirEdges : Obligations.InputLinesActOnTheirEdges := by
  refine ⟨fun s => ⟨fun high => if_pos high, exec_advanceDone_of_stray, rfl⟩, fun s => ?_⟩
  intro risen causes
  refine ⟨fun high => ?_, fun low stopped => ?_, fun low new onHold => ?_,
    fun low new running => ⟨fun n advancing => ?_, fun notAdvancing notSuspended => ?_⟩, rfl⟩
  · refine congrArg Host.Outcome.next (?_ : s.mapTrack TrackControl.holdLineRises = s)
    rw [State.mapTrack, holdLineRises_of_high high]
  · exact exec_holdLineRise low (addCause_of_stopped .line risen stopped)
  · exact exec_holdLineRise low (addCause_of_onHold (t := risen) new onHold)
  · exact exec_holdLineRise low (addCause_of_advancing (t := risen) new running advancing)
  · exact exec_holdLineRise low (addCause_of_waiting (t := risen) new running notAdvancing notSuspended)

/-! ## The cadence (R26, R28) -/

section Cadence
variable {s : State}

theorem cadenceDue_iff (t : TrackControl) :
    t.cadenceDue = true ↔ (t.motion = .running ∨ t.motion = .holding) ∧ t.cadenceCompare ≠ 0 ∧
      t.cadenceCompare ≤ t.cadenceCount := by
  simp only [TrackControl.cadenceDue, Bool.and_eq_true, Bool.or_eq_true, decide_eq_true_eq, and_assoc]

theorem cadenceEffect_of_begins (running : s.track.motion = .running) (idle : s.track.step = .idle) :
    s.cadenceEffect = s.beginStep := by
  unfold State.cadenceEffect
  rw [running, idle]

theorem cadenceEffect_of_owes (running : s.track.motion = .running) (notIdle : s.track.step ≠ .idle)
    (notSuspended : s.track.step ≠ .suspended) :
    s.cadenceEffect = ({ s with track := { s.track with owed := true } },
      if s.track.owed then [.cadenceOverrun] else []) := by
  unfold State.cadenceEffect
  split
  · next idle => exact absurd idle notIdle
  · next suspended => exact absurd suspended notSuspended
  · rfl
  · next out => exact absurd running (by assumption)

theorem cadenceEffect_of_holding (holding : s.track.motion = .holding) :
    s.cadenceEffect = (s, []) := by
  unfold State.cadenceEffect
  rw [holding]

end Cadence

/-- Settles O35, by whether the expiry is due, and by the motion state and the sub-state. -/
theorem cadenceExpiryBeginsOrOwesAStep : Obligations.CadenceExpiryBeginsOrOwesAStep := by
  intro s due expired
  have due_eq : s.track.cadenceDue = true ↔ due := cadenceDue_iff s.track
  have expires (isDue : due) {c : Change} (effect : expired.cadenceEffect = c) :
      exec .cadenceExpiry s = .next (c.1.routeAll c.2) := by
    rw [← effect]
    exact congrArg Host.Outcome.next (if_pos (due_eq.2 isDue))
  refine ⟨fun notDue => congrArg Host.Outcome.next (if_neg (mt due_eq.1 notDue)),
    fun isDue running idle => expires isDue (cadenceEffect_of_begins (s := expired) running idle),
    fun isDue running notIdle notSuspended => ?_,
    fun isDue holding => expires isDue (cadenceEffect_of_holding (s := expired) holding)⟩
  have owes := expires isDue (cadenceEffect_of_owes (s := expired) running notIdle notSuspended)
  refine ⟨fun notOwed => ?_, fun owed => ?_⟩
  · rw [owes]
    dsimp only [expired]
    rw [notOwed]
    rfl
  · have same : ({ expired with track := { expired.track with owed := true } } : State) = expired := by
      simp only [expired, ← owed]
    rw [owes]
    dsimp only
    rw [same, show expired.track.owed = true from owed]
    rfl

/-! ## The timers of the sub-states (R35, R38, R45) -/

/-- Settles O36, by whether each timer has run out. -/
theorem stepTimersRunOut : Obligations.StepTimersRunOut := by
  refine ⟨fun s => ?_, fun s => ⟨fun notDue => ?_, fun due => ?_, fun notDue => ?_, fun due => ?_⟩⟩
  · intro cleared
    refine ⟨fun notDue => congrArg Host.Outcome.next (if_neg (by simpa [TrackControl.settleDue])),
      fun due => ?_⟩
    have ends : exec .settleExpiry s = .next (settleEvents s.endSettling) :=
      congrArg Host.Outcome.next (if_pos (by simpa [TrackControl.settleDue]))
    rw [ends]
    unfold State.endSettling
    refine ⟨fun notOwed => ?_, fun owed => ?_⟩
    · rw [if_neg (by rw [notOwed]; nofun)]
      rfl
    · rw [if_pos owed]
      rfl
  · exact congrArg Host.Outcome.next (if_neg (by simpa [TrackControl.advanceLimitDue]))
  · exact congrArg Host.Outcome.next (if_pos (by simpa [TrackControl.advanceLimitDue]))
  · exact congrArg Host.Outcome.next (if_neg (by simpa [TrackControl.exitWaitDue]))
  · exact congrArg Host.Outcome.next (if_pos (by simpa [TrackControl.exitWaitDue]))

/-! ## The base tick (R25, R26, R114, R177) -/

theorem limitExpiry_eq (s : State) (link : Link) :
    s.limitExpiry link =
      match s.links[link].receiver with
      | .hunt => s
      | .body gap _ =>
        if 2 < gap then
          State.latched
            { s with links := s.links.set link { s.links[link] with receiver := .hunt } } link
            .truncated
        else s := by
  unfold State.limitExpiry LinkChannel.limitDue
  cases s.links[link].receiver with
  | hunt => rfl
  | body gap bytes =>
    simp only [decide_eq_true_eq]
    rfl

theorem stepTick_eq (p : StepState) :
    p.tick =
      match p with
      | .idle => .idle
      | .exitWait n => .exitWait (n - 1)
      | .advancing n => .advancing (n - 1)
      | .settling n => .settling (n - 1)
      | .suspended => .suspended := by
  cases p <;> rfl

/-- The track controller counts its sub-state timer, and the cadence counter where the line moves. -/
theorem trackTick_eq (t : TrackControl) :
    t.tick = { t with
      step := t.step.tick
      cadenceCount := if t.motion = .running ∨ t.motion = .holding
        then min 65535 (t.cadenceCount + 1) else t.cadenceCount } := by
  unfold TrackControl.tick
  cases t.motion <;> simp only <;> rfl

theorem trackTick_only (t : TrackControl) :
    t.tick = { t with step := t.tick.step, cadenceCount := t.tick.cadenceCount } := by
  rw [trackTick_eq]

theorem exposureTick_eq (e : Exposure) :
    e.tickCounter = { e with
      counter := if e.interval = 0 then e.counter else min 65535 (e.counter + 1) } := by
  unfold Exposure.tickCounter
  split <;> rfl

/-- Settles O37: the expiries left due are those of the five timer commands and of the links, and then
every count is one of its own. -/
theorem baseTickCountsEveryTimer : Obligations.BaseTickCountsEveryTimer := by
  intro s
  refine ⟨_, _, _, _, _, _, rfl, rfl, rfl, rfl, rfl, rfl, ?_⟩
  intro cut f
  have f_eq : s.takeOverdue = f :=
    congrArg (fun limit => (List.finRange 12).foldl limit _) (funext fun u => funext (limitExpiry_eq u))
  rw [f_eq]
  clear_value f
  refine ⟨rfl, ?_, ?_, ?_, exposureTick_eq f.exposure, fun l => ?_⟩
  · exact trackTick_only f.track
  · exact congrArg TrackControl.cadenceCount (trackTick_eq f.track)
  · exact (trackTick_step f.track).trans (stepTick_eq f.track.step)
  · change (Vector.ofFn _)[l] = _
    rw [Fin.getElem_fin, Vector.getElem_ofFn]
    rfl

end Sys2Proof.Machine
end

section
/-! PROOFS. The exposure tick and what it does to a rod, and the marks of a rod (R5, R108, R109, R114,
R116 to R123). -/

namespace Sys2Proof.Machine

/-! ## Marks (R5) -/

theorem insert_of_has {m : Marks} {k : Mark} (has : m.has k = true) : m.insert k = m := by
  obtain ⟨_, _, _, _, _, _, _⟩ := m
  cases k <;> simp only [Marks.has] at has <;> rw [Marks.insert, has]

@[simp] theorem addMark_marks (m : Mark) (r : RodRecord) :
    (r.addMark m).marks = r.marks.insert m := by
  unfold RodRecord.addMark
  split
  · next has => exact (insert_of_has has).symm
  · rfl

/-! ## What a tick does to a rod in a REPORTING zone (R119 to R121) -/

/-- The off-schedule count rises where another format governs the zone of the rod (R121). -/
def RodRecord.isMixed (governing : Option Nat) (r : RodRecord) : Bool :=
  governing.any fun f => decide (f ≠ r.format)

section Reporting
variable (k : ReportClass) (governing : Option Nat) (tolerance : Nat) (r : RodRecord)

theorem markClass_marks :
    (r.markClass k).marks =
      { r.marks with
        minorExposure := r.marks.minorExposure || decide (k = .minor)
        majorExposure := r.marks.majorExposure || decide (k = .major) } := by
  unfold RodRecord.markClass
  cases k <;> simp [ReportClass.mark, Marks.insert]

theorem markClass_keeps :
    (r.markClass k).dose = r.dose ∧ (r.markClass k).offSchedule = r.offSchedule ∧
      (r.markClass k).place = r.place ∧ (r.markClass k).id = r.id ∧ (r.markClass k).lot = r.lot ∧
      (r.markClass k).format = r.format ∧ (r.markClass k).hangStep = r.hangStep := by
  unfold RodRecord.markClass
  split <;> simp

theorem countOffSchedule_of_same (same : r.isMixed governing = false) :
    r.countOffSchedule governing tolerance = r := by
  unfold RodRecord.isMixed at same
  unfold RodRecord.countOffSchedule
  cases governing with
  | none => rfl
  | some f => exact if_pos (by simpa using same)

theorem countOffSchedule_of_mixed (mixed : r.isMixed governing = true) :
    r.countOffSchedule governing tolerance =
      if tolerance < min 255 (r.offSchedule + 1) then
        { r with offSchedule := min 255 (r.offSchedule + 1) }.addMark .offSchedule
      else { r with offSchedule := min 255 (r.offSchedule + 1) } := by
  unfold RodRecord.isMixed at mixed
  unfold RodRecord.countOffSchedule
  cases governing with
  | none => cases mixed
  | some f => exact if_neg (by simpa using mixed)

theorem countOffSchedule_keeps :
    (r.countOffSchedule governing tolerance).dose = r.dose ∧
      (r.countOffSchedule governing tolerance).place = r.place ∧
      (r.countOffSchedule governing tolerance).id = r.id ∧
      (r.countOffSchedule governing tolerance).lot = r.lot ∧
      (r.countOffSchedule governing tolerance).format = r.format ∧
      (r.countOffSchedule governing tolerance).hangStep = r.hangStep := by
  cases mixed : r.isMixed governing with
  | false => rw [countOffSchedule_of_same governing tolerance r mixed]; simp
  | true =>
    rw [countOffSchedule_of_mixed governing tolerance r mixed]
    split <;> simp

theorem countOffSchedule_count :
    (r.countOffSchedule governing tolerance).offSchedule =
      if r.isMixed governing then min 255 (r.offSchedule + 1) else r.offSchedule := by
  cases mixed : r.isMixed governing with
  | false => rw [countOffSchedule_of_same governing tolerance r mixed]; rfl
  | true =>
    rw [countOffSchedule_of_mixed governing tolerance r mixed]
    split <;> simp

theorem countOffSchedule_marks :
    (r.countOffSchedule governing tolerance).marks =
      { r.marks with
        offSchedule := r.marks.offSchedule || (r.isMixed governing &&
          decide (tolerance <
            if r.isMixed governing then min 255 (r.offSchedule + 1) else r.offSchedule)) } := by
  cases mixed : r.isMixed governing with
  | false => rw [countOffSchedule_of_same governing tolerance r mixed]; simp
  | true =>
    rw [countOffSchedule_of_mixed governing tolerance r mixed]
    split
    · next past => simp [Marks.insert, past]
    · next within => simp [within]

end Reporting

/-! ## The zone of a position (R93, R118) -/

section Zone
variable {s : State} {p : Nat} {b : Word32} {r : RodRecord} {z : Zone}

theorem zoneAt_of_none (uncovered : ∀ z : Zone, s.zones.channels[z].covers p = false) :
    s.zoneAt p = none :=
  List.find?_eq_none.2 fun z _ => by rw [uncovered z]; nofun

theorem zoneAt_of_only (covers : s.zones.channels[z].covers p = true)
    (only : ∀ w : Zone, s.zones.channels[w].covers p = true → w = z) : s.zoneAt p = some z := by
  unfold State.zoneAt
  cases found : (List.finRange 8).find? fun z => s.zones.channels[z].covers p with
  | none => exact absurd covers (List.find?_eq_none.1 found z (List.mem_finRange z))
  | some w =>
    have covers_w := List.find?_some (p := fun z : Zone => s.zones.channels[z].covers p) found
    rw [only w covers_w]

theorem exposeRod_of_offTrack (off : ∀ p b, r.place ≠ .onTrack p b) : s.exposeRod r = r := by
  unfold State.exposeRod
  split
  · next p b there => exact absurd there (off p b)
  all_goals rfl

theorem exposeRod_of_transit (there : r.place = .onTrack p b) (transit : s.zoneAt p = none) :
    s.exposeRod r = r := by
  unfold State.exposeRod
  rw [there]
  dsimp only
  rw [transit]

theorem exposeRod_of_zone (there : r.place = .onTrack p b) (zone : s.zoneAt p = some z) :
    s.exposeRod r = r.expose s.zones.channels[z] (s.formatFields r.format).tolerance := by
  unfold State.exposeRod
  rw [there]
  dsimp only
  rw [zone]

end Zone

theorem expose_of_reporting {c : ZoneChannel} {report : Report} (reporting : c.state = .reporting)
    (last : c.report = some report) (tolerance : Nat) (r : RodRecord) :
    r.expose c tolerance = ((r.creditDose report.doseRate).markClass c.reportClass).countOffSchedule
      c.governing tolerance := by
  unfold RodRecord.expose
  rw [reporting, last]
  rfl

/-! ## Staleness (R108, R109) -/

section Stale
variable (limit : Nat) (c : ZoneChannel)

/-- The staleness count that a tick gives a zone that is not OFF. -/
abbrev ZoneChannel.counted (c : ZoneChannel) : Nat := min 255 (c.staleness + 1)

theorem countStale_of_on (on : c.state ≠ .off) : c.countStale = { c with staleness := c.counted } := by
  unfold ZoneChannel.countStale
  split
  · next off => exact absurd off on
  · rfl

theorem growsStale_iff :
    c.growsStale limit = true ↔ (c.state = .awaiting ∨ c.state = .reporting) ∧ limit ≤ c.counted := by
  unfold ZoneChannel.growsStale
  cases state : c.state <;> simp [countStale_of_on, state]

theorem advanceStale_eq :
    c.advanceStale limit =
      if c.state = .off then c
      else { c with
        staleness := c.counted
        state := if c.growsStale limit = true then .stale else c.state } := by
  unfold ZoneChannel.advanceStale
  by_cases off : c.state = .off
  · have kept : ¬ c.growsStale limit = true := by rw [growsStale_iff]; simp [off]
    rw [if_neg kept, if_pos off]
    unfold ZoneChannel.countStale
    rw [off]
  · rw [if_neg off, countStale_of_on c off]
    split <;> rfl

end Stale

theorem due_iff (e : Exposure) : e.due = true ↔ e.interval ≠ 0 ∧ e.interval ≤ e.counter := by
  unfold Exposure.due
  rw [Bool.and_eq_true, decide_eq_true_iff, decide_eq_true_iff]

/-- One class raised for each member of a list. -/
theorem routeAll_map_const {α : Type} (s : State) (c : EventClass) (xs : List α) :
    s.routeAll (xs.map fun _ => c) = xs.foldl (fun u _ => u.route c) s := by
  unfold State.routeAll
  exact List.foldl_map

/-- Settles O38, the tick first, then what it does to a rod by its place and zone, then the marks. -/
theorem exposureTick : Obligations.ExposureTick := by
  refine ⟨fun s => ?_, fun s r => ⟨exposeRod_of_offTrack, fun p b there =>
    ⟨fun uncovered => exposeRod_of_transit there (zoneAt_of_none uncovered),
      fun z covers only => ?_⟩⟩, fun r m => ?_⟩
  · intro due counted grows ticked grown
    have grows_iff (z : Zone) :
        s.zones.channels[z].growsStale s.zones.stalenessLimit = true ↔ grows z := growsStale_iff _ _
    have ticked_eq : s.exposed = ticked := by
      refine congrArg (fun channels => ({ ticked with
        zones := { s.zones with channels := channels } } : State)) ?_
      refine congrArg Vector.ofFn (funext fun z => ?_)
      refine (advanceStale_eq s.zones.stalenessLimit s.zones.channels[z]).trans ?_
      simp only [grows_iff]
      rfl
    have raised : s.staleEvents = grown.map fun _ => .zoneStale := by
      refine congrArg (List.map fun _ => EventClass.zoneStale) (List.filter_congr fun z _ => ?_)
      rw [Bool.eq_iff_iff, grows_iff, decide_eq_true_iff]
    have takes (isDue : due) : exec .exposureTick s =
        .next (grown.foldl (fun u _ => u.route .zoneStale) ticked) := by
      rw [← routeAll_map_const, ← raised, ← ticked_eq,
        ← exposureExpiry_of_due ((due_iff s.exposure).2 isDue)]
      rfl
    refine ⟨fun notDue => congrArg Host.Outcome.next (if_neg (mt (due_iff s.exposure).1 notDue)), takes,
      fun isDue none => ?_⟩
    rw [takes isDue, show grown = [] from List.filter_eq_nil_iff.2 fun z _ => by simp [none z]]
    rfl
  · have zone := exposeRod_of_zone (s := s) there (zoneAt_of_only covers only)
    rw [zone]
    refine ⟨fun quiet => ?_, fun stale => ?_, fun report reporting last => ?_⟩
    · unfold RodRecord.expose
      rcases quiet with off | awaiting
      · rw [off]
      · rw [awaiting]
    · unfold RodRecord.expose
      rw [stale]
    · intro mixed count
      rw [expose_of_reporting reporting last]
      obtain ⟨dose, offSchedule, place, id, lot, format, hangStep⟩ :=
        markClass_keeps s.zones.channels[z].reportClass (r.creditDose report.doseRate)
      have marks := markClass_marks s.zones.channels[z].reportClass (r.creditDose report.doseRate)
      generalize (r.creditDose report.doseRate).markClass s.zones.channels[z].reportClass = marked
        at dose offSchedule place id lot format hangStep marks
      have sameMixed : marked.isMixed s.zones.channels[z].governing = mixed := by
        unfold RodRecord.isMixed
        rw [format]
        rfl
      obtain ⟨dose', place', id', lot', format', hangStep'⟩ := countOffSchedule_keeps
        s.zones.channels[z].governing (s.formatFields r.format).tolerance marked
      refine ⟨dose'.trans dose, ?_, ?_, place'.trans place, id'.trans id, lot'.trans lot,
        format'.trans format, hangStep'.trans hangStep⟩
      · rw [countOffSchedule_count, sameMixed, offSchedule]
        rfl
      · rw [countOffSchedule_marks, sameMixed, offSchedule, marks]
        rfl
  · intro required
    have required_eq : required = m.grade := by cases m <;> rfl
    rw [required_eq]
    refine ⟨fun has => if_pos has, fun lacks => ⟨?_, fun k => ?_⟩⟩
    · rw [addMark_marks]
      exact if_neg (by rw [lacks]; nofun)
    · rw [addMark_marks, has_insert]

end Sys2Proof.Machine
end

section
/-! PROOFS. The exit unit: the disposition, TAKE and CONFIRM (R44, R132, R134 to R137). -/

namespace Sys2Proof.Machine

/-- Settles O39, by the grade. -/
theorem dispositionIsTheFirstLineThatApplies : Obligations.DispositionIsTheFirstLineThatApplies := by
  intro grade dose doseMinimum doseMaximum
  cases grade <;> simp only [dispositionOf] <;> rfl

/-! ## TAKE (R134 to R136) -/

section Take
variable {s : State}

/-- A request whose events reach the router after the answer (R134). -/
theorem serve_after {link : Link} {may : StationClass → Bool} {body : State → Reply} {t : State}
    {a : Answer} {cs : List EventClass} (ready : s.ready link) (m : may s.links[link].class_ = true)
    (reply : body (s.endFrame link) = { state := t.endFrame link, answer := a, after := cs }) :
    s.serve link may body = (t.answered link a.status a.payload).routeAll cs := by
  rw [serve_ready s link ready m, reply]
  exact congrArg (State.routeAll · cs) (respond_endFrame t link a none rfl)

theorem takeReply_of_head {id : Nat} {rest : List Nat} {r : RodRecord}
    (queue : s.exitQueue = id :: rest) (known : s.rod id = some r) {c : ChainResult}
    (chain : resolveChain s.registry.lots r.lot = c) :
    takeReply s =
      { state := s.mapRods (updateRod id (RodRecord.revise c))
        answer := .data ((s.mapRods (updateRod id (RodRecord.revise c))).exitRecord id)
        after := reviseEvents c r } := by
  unfold takeReply
  rw [queue]
  dsimp only
  rw [known]
  dsimp only
  rw [chain]

theorem serve_take {link : Link} (ready : s.readyAs link .stripper) {id : Nat} {rest : List Nat}
    {r : RodRecord} (queue : s.exitQueue = id :: rest) (known : s.rod id = some r) {c : ChainResult}
    (chain : resolveChain s.registry.lots r.lot = c) :
    exec (.take link) s = .next
      (((s.mapRods (updateRod id (RodRecord.revise c))).answered link .data
        ((s.mapRods (updateRod id (RodRecord.revise c))).exitRecord id)).routeAll
          (reviseEvents c r)) :=
  congrArg Host.Outcome.next (serve_after (t := s.mapRods (updateRod id (RodRecord.revise c)))
    (a := .data ((s.mapRods (updateRod id (RodRecord.revise c))).exitRecord id)) ready.1
    (isStripper_of_readyAs ready)
    (takeReply_of_head (s := s.endFrame link) queue known chain))

/-- In a sorted table a change of the record of a known ID is one of that record. -/
theorem updateRod_of_known (R : RodInv s) {id : Nat} {r : RodRecord} (known : s.rod id = some r)
    (f : RodRecord → RodRecord) :
    updateRod id f s.registry.rods = s.registry.rods.map fun x => if x.id = id then f r else x := by
  refine List.map_congr_left fun x member => ?_
  split
  · next same =>
    have found := R.rod_of_mem member
    rw [same, known] at found
    rw [Option.some.inj found]
  · rfl

theorem updateRod_same (id : Nat) (rods : List RodRecord) : updateRod id (fun r => r) rods = rods :=
  (List.map_congr_left fun _ _ => ite_self _).trans (List.map_id _)

end Take

section Revise
variable {r : RodRecord} {c : ChainResult} {m : Mark} {b e : Word32} {d : Disposition}
  (marks : c.mark = some m) (place : r.place = .exited b e d)
include marks place

theorem revise_of_mark : r.revise c = { r.addMark m with place := .exited b e .quarantine } := by
  have quarantined : RodRecord.revise.quarantined (r.addMark m) =
      { r.addMark m with place := .exited b e .quarantine } := by
    unfold RodRecord.revise.quarantined
    rw [addMark_place, place]
  cases c <;> cases marks <;> exact quarantined

theorem reviseEvents_of_mark :
    reviseEvents c r = c.events ++ if d = .quarantine then [] else [.quarantine] := by
  unfold reviseEvents
  rw [revise_of_mark marks place]
  simp only [RodRecord.disposition, place, ne_eq, Option.some.injEq, and_true]
  split <;> simp_all

end Revise

/-- Settles O40, by the queue, and by the result of the resolution. -/
theorem takeResolvesTheHeadAgain : Obligations.TakeResolvesTheHeadAgain := by
  intro s link ready
  refine ⟨fun empty => ?_, fun id rest r b e d queue known place => ?_⟩
  · have reply : takeReply (s.endFrame link) = { state := s.endFrame link, answer := .empty } := by
      unfold takeReply
      rw [endFrame_exitQueue, empty]
    exact congrArg Host.Outcome.next
      (serve_endFrame s link (a := .empty) ready.1 (isStripper_of_readyAs ready) reply)
  · intro revised becomes R
    have marked {c : ChainResult} {m : Mark} (marks : c.mark = some m)
        (chain : resolveChain s.registry.lots r.lot = c) :
        exec (.take link) s = .next
          (((revised m).answered link .data ((revised m).exitRecord id)).routeAll
            (c.events ++ becomes)) := by
      have same : s.mapRods (updateRod id (RodRecord.revise c)) = revised m := by
        unfold State.mapRods
        rw [updateRod_of_known R known, revise_of_mark marks place]
      rw [serve_take ready queue known chain, same, reviseEvents_of_mark marks place]
    refine ⟨fun clear => ?_, marked rfl, marked rfl⟩
    have same : s.mapRods (updateRod id (RodRecord.revise .clear)) = s := by
      unfold State.mapRods
      exact congrArg (fun rods => ({ s with registry := { s.registry with rods := rods } } : State))
        (updateRod_same id s.registry.rods)
    have none : reviseEvents .clear r = [] := by
      unfold reviseEvents
      exact if_neg fun both => both.1 both.2
    rw [serve_take ready queue known clear, same, none, routeAll_nil]

/-! ## CONFIRM (R44, R137) -/

section Confirm
variable {s : State} {id : Nat}

theorem confirmReply_of_zero (zero : id = 0) : confirmReply id s = refuse s .range := if_pos zero

variable (nonzero : ¬ id = 0)
include nonzero

theorem confirmReply_of_absent (absent : id ∉ s.exitQueue) : confirmReply id s = refuse s .notFound :=
  (if_neg nonzero).trans (if_pos absent)

variable (present : ¬ id ∉ s.exitQueue)
include present

theorem confirmReply_of_mismatch (behind : s.exitQueue.head? ≠ some id) :
    confirmReply id s = refuse s .mismatch :=
  ((if_neg nonzero).trans (if_neg present)).trans (if_pos behind)

theorem confirmReply_of_head (head : s.exitQueue.head? = some id) :
    confirmReply id s = accept (settleEvents (s.confirmHead id)) :=
  ((if_neg nonzero).trans (if_neg present)).trans (if_neg (not_not.2 head))

end Confirm

section ConfirmHead
variable {s : State} {id : Nat} {r : RodRecord} {l : Lot} (known : s.rod id = some r)
  (lot : s.registry.lots[r.lot] = some l)

/-- The part once the head of the exit queue is deleted. -/
abbrev State.headRemoved (s : State) (id : Nat) (r : RodRecord) (l : Lot) : State :=
  { s with
    registry :=
      { rods := s.registry.rods.filter fun x => x.id != id
        lots := freeIfSpent (s.registry.lots.set r.lot (some { l with rodCount := l.rodCount - 1 }))
          r.lot }
    exitQueue := s.exitQueue.tail }

include known lot

theorem confirmHead_of_noWait (noWait : ∀ n, s.track.step ≠ .exitWait n) :
    s.confirmHead id = (s.headRemoved id r l, []) := by
  unfold State.confirmHead
  rw [deleteRod_of_known known lot]
  split
  · next n waits => exact absurd waits (noWait n)
  all_goals rfl

theorem confirmHead_of_wait {n : Nat} (waits : s.track.step = .exitWait n) :
    s.confirmHead id = (s.headRemoved id r l).enterAdvancing := by
  unfold State.confirmHead
  rw [deleteRod_of_known known lot, waits]

end ConfirmHead

/-- Settles O41: the checks of R137 in order, and whether a step waits at the exit. -/
theorem confirmRemovesTheHead : Obligations.ConfirmRemovesTheHead := by
  intro s link rod ready reason
  refine ⟨fun r refused => ?_, fun accepted r l known lot => ?_⟩
  · have reply : confirmReply rod.toNat (s.endFrame link) = refuse (s.endFrame link) r := by
      simp only [reason, firstReason_eq_some, firstReason_nil, decide_eq_true_eq,
        decide_eq_false_iff_not] at refused
      rcases refused with ⟨zero, rfl⟩ | ⟨nonzero, ⟨absent, rfl⟩ | ⟨present, ⟨behind, rfl⟩ |
        ⟨_, noReason⟩⟩⟩
      · exact confirmReply_of_zero zero
      · exact confirmReply_of_absent (s := s.endFrame link) nonzero absent
      · exact confirmReply_of_mismatch (s := s.endFrame link) nonzero present behind
      · cases noReason
    exact congrArg Host.Outcome.next
      (serve_refuse s link ready.1 (isStripper_of_readyAs ready) reply)
  · simp only [reason, firstReason_eq_none, decide_eq_false_iff_not] at accepted
    obtain ⟨nonzero, present, head, _⟩ := accepted
    intro removed
    have reply := confirmReply_of_head (s := s.endFrame link) nonzero present (not_not.1 head)
    refine ⟨fun noWait => ?_, fun n waits => ?_⟩
    · rw [confirmHead_of_noWait (s := s.endFrame link) known lot noWait] at reply
      exact congrArg Host.Outcome.next (serve_endFrame s link (t := removed) (a := .accepted) ready.1
        (isStripper_of_readyAs ready) reply)
    · rw [confirmHead_of_wait (s := s.endFrame link) known lot waits] at reply
      have ended : settleEvents ((s.endFrame link).headRemoved rod.toNat r l).enterAdvancing =
          (removed.enterAdvancing.1.routeAll removed.enterAdvancing.2).endFrame link := by
        rw [← routeAll_endFrame]
        exact congrArg settleEvents (enterAdvancing_endFrame removed link)
      rw [ended] at reply
      exact congrArg Host.Outcome.next (serve_endFrame s link (a := .accepted) ready.1
        (isStripper_of_readyAs ready) reply)

end Sys2Proof.Machine
end

section
/-! PROOFS. The zone monitor: the governing format and its recomputation, the class of a report and
the capture, SETPOINT, QUIET and CLIMATE (R97 to R99, R103 to R107, R110, R171). -/

namespace Sys2Proof.Machine

/-! ## The governing format (R97) -/

/-- The content of a position of a run of slots, a gap beyond its end. -/
abbrev rodAt (slots : List (Option Nat)) (p : Nat) : Option Nat := (slots[p]?).join

section Highest
variable {slots : List (Option Nat)}

theorem highestRod_cons (x : Option Nat) (slots : List (Option Nat)) :
    highestRod (x :: slots) = (highestRod slots).or x := by
  unfold highestRod
  rw [List.reverse_cons, List.findSome?_append]
  cases x <;> rfl

theorem highestRod_of_empty (empty : ∀ p, rodAt slots p = none) : highestRod slots = none := by
  induction slots with
  | nil => rfl
  | cons x slots ih =>
    rw [highestRod_cons, ih fun p => empty (p + 1)]
    exact empty 0

theorem highestRod_of_highest {p id : Nat} (there : rodAt slots p = some id)
    (above : ∀ q, p < q → rodAt slots q = none) : highestRod slots = some id := by
  induction slots generalizing p with
  | nil => cases there
  | cons x slots ih =>
    rw [highestRod_cons]
    cases p with
    | zero =>
      rw [highestRod_of_empty fun q => above (q + 1) (Nat.succ_pos q)]
      exact there
    | succ p =>
      rw [ih (p := p) there fun q higher => above (q + 1) (Nat.succ_lt_succ higher)]
      rfl

theorem rodAt_take (n p : Nat) : rodAt (slots.take n) p = if p < n then rodAt slots p else none := by
  unfold rodAt
  rw [List.getElem?_take]
  split <;> rfl

theorem rodAt_window (base limit p : Nat) :
    rodAt ((slots.take (limit + 1)).drop base) p =
      if base + p ≤ limit then rodAt slots (base + p) else none := by
  have moved : rodAt ((slots.take (limit + 1)).drop base) p =
      rodAt (slots.take (limit + 1)) (base + p) := by
    unfold rodAt
    rw [List.getElem?_drop]
  simp only [moved, rodAt_take, Nat.lt_succ_iff]

end Highest

section Governing
variable {s : State} {base limit p id : Nat} {r : RodRecord}

theorem rodAt_of_free (free : s.track.occupied p = false) : rodAt s.track.slots p = none :=
  Option.isSome_eq_false_iff.1 free |> Option.isNone_iff_eq_none.1

theorem governingFormat_of_deciding (decides : decidingRod s.track.slots base limit = some id)
    (known : s.rod id = some r) : s.governingFormat base limit = some r.format := by
  unfold State.governingFormat State.rodFormat
  rw [decides, Option.bind_some, known]
  rfl

theorem decidingRod_of_inside (first : base ≤ p) (last : p ≤ limit)
    (there : s.track.slots[p]? = some (some id))
    (above : ∀ q, p < q → q ≤ limit → s.track.occupied q = false) :
    decidingRod s.track.slots base limit = some id := by
  have inside : highestRod ((s.track.slots.take (limit + 1)).drop base) = some id := by
    refine highestRod_of_highest (p := p - base) ?_ fun q higher => ?_
    · rw [rodAt_window, Nat.add_sub_cancel' first, if_pos last, rodAt, there]
      rfl
    · rw [rodAt_window]
      split
      · next within => exact rodAt_of_free (above _ (by omega) within)
      · rfl
  unfold decidingRod
  rw [inside]

theorem highestRod_of_emptyWindow
    (empty : ∀ q, base ≤ q → q ≤ limit → s.track.occupied q = false) :
    highestRod ((s.track.slots.take (limit + 1)).drop base) = none := by
  refine highestRod_of_empty fun q => ?_
  rw [rodAt_window]
  split
  · next within => exact rodAt_of_free (empty _ (Nat.le_add_right base q) within)
  · rfl

theorem decidingRod_of_below (ordered : base ≤ limit) (below : p < base)
    (there : s.track.slots[p]? = some (some id))
    (above : ∀ q, p < q → q ≤ limit → s.track.occupied q = false) :
    decidingRod s.track.slots base limit = some id := by
  unfold decidingRod
  rw [highestRod_of_emptyWindow fun q first last => above q (by omega) last]
  refine highestRod_of_highest (p := p) ?_ fun q higher => ?_
  · rw [rodAt_take, if_pos below, rodAt, there]
    rfl
  · rw [rodAt_take]
    split
    · next within => exact rodAt_of_free (above q higher (by omega))
    · rfl

theorem decidingRod_of_none (ordered : base ≤ limit)
    (empty : ∀ q, q ≤ limit → s.track.occupied q = false) :
    decidingRod s.track.slots base limit = none := by
  unfold decidingRod
  rw [highestRod_of_emptyWindow fun q _ last => empty q last]
  refine highestRod_of_empty fun q => ?_
  rw [rodAt_take]
  split
  · exact rodAt_of_free (empty q (by omega))
  · rfl

end Governing

theorem recomputeZones_channel (s : State) (z : Zone) :
    s.recomputeZones.zones.channels[z] =
      if s.zones.channels[z].enabled then
        s.zones.channels[z].switch
          (s.governingFormat s.zones.channels[z].base s.zones.channels[z].limit)
      else s.zones.channels[z] := by
  unfold State.recomputeZones
  rw [mapChannels_zones]
  simp

/-- Settles O42: the highest rod of the window or of the slots below it, then the recomputation, by
whether the zone is enabled and by what is found. -/
theorem governingFormatAndRecomputation : Obligations.GoverningFormatAndRecomputation := by
  refine ⟨fun s base limit ordered => ⟨fun p id r first last there known above => ?_,
    fun p id r below there known above => ?_, fun empty => ?_⟩, fun s => ⟨rfl, fun z => ?_⟩⟩
  · exact governingFormat_of_deciding (decidingRod_of_inside first last there above) known
  · exact governingFormat_of_deciding (decidingRod_of_below ordered below there above) known
  · unfold State.governingFormat
    rw [decidingRod_of_none ordered empty]
    rfl
  · intro c found
    rw [recomputeZones_channel]
    refine ⟨fun off => if_neg (by rw [off]; nofun), fun on same => ?_, fun on other => ?_⟩
    · exact (if_pos on).trans (if_pos same)
    · exact (if_pos on).trans (if_neg other)

/-! ## The class of a report and the capture (R106, R171) -/

theorem deviation_eq (a b : Nat) : deviation a b = max a b - min a b := by
  unfold deviation
  split <;> omega

section Offer
variable {c : Capture} {record : CaptureRecord}

theorem offer_of_ok (ok : record.reportClass = .ok) : c.offer record = c := by
  unfold Capture.offer
  rw [ok]

theorem offer_of_minor (minor : record.reportClass = .minor) :
    c.offer record =
      if c.record = none then { c with record := some record, minorSeen := true }
      else { c with minorSeen := true } := by
  unfold Capture.offer
  rw [minor]
  cases c.record <;> rfl

theorem offer_of_major_none (major : record.reportClass = .major) (empty : c.record = none) :
    c.offer record = { c with record := some record, majorSeen := true } := by
  unfold Capture.offer
  rw [major, empty]

theorem offer_of_major_some {held : CaptureRecord} (major : record.reportClass = .major)
    (full : c.record = some held) :
    c.offer record =
      if held.reportClass = .major then { c with majorSeen := true }
      else { c with record := some record, majorSeen := true } := by
  unfold Capture.offer
  rw [major, full]

end Offer

/-- Settles O43, by the class of the report and what the capture holds. -/
theorem reportClassAndCapture : Obligations.ReportClassAndCapture := by
  refine ⟨fun z r => ?_, fun c record => ⟨offer_of_ok, fun minor empty => ?_, fun minor full => ?_,
    offer_of_major_none, fun held major full => ⟨fun same => ?_, fun other => ?_⟩⟩⟩
  · intro temperature humidity
    unfold classify
    rw [deviation_eq, deviation_eq]
  · exact (offer_of_minor minor).trans (if_pos empty)
  · exact (offer_of_minor minor).trans (if_neg full)
  · exact (offer_of_major_some major full).trans (if_pos same)
  · exact (offer_of_major_some major full).trans (if_neg other)

/-! ## Requests of a zone station -/

section ZoneRequests
variable {s : State} {link : Link} {z : Zone}

theorem isZone_of_readyAs (ready : s.readyAs link (.zone z)) :
    isZone s.links[link].class_ = true := by
  rw [ready.2]
  rfl

theorem onZone_of_zone (bound : s.links[link].class_ = .zone z) (body : Zone → State → Reply) :
    onZone link body s = body z s := by
  unfold onZone
  rw [bound]
  rfl

theorem onZone_endFrame (ready : s.readyAs link (.zone z)) (body : Zone → State → Reply) :
    onZone link body (s.endFrame link) = body z (s.endFrame link) :=
  onZone_of_zone ((endFrame_class s link link).trans ready.2) body

end ZoneRequests

/-! ## SETPOINT and QUIET (R103, R110) -/

section SetpointQuiet
variable {s : State} {z : Zone}

theorem setpointReply_of_none (ungoverned : s.zones.channels[z].governing = none) :
    setpointReply z s =
      { state := s.withChannel z { s.zones.channels[z] with changed := false }
        answer := .noSchedule } := by
  unfold setpointReply
  split
  · rfl
  · next governs => cases ungoverned.symm.trans governs

theorem setpointReply_of_format {f : Nat} (governs : s.zones.channels[z].governing = some f) :
    setpointReply z s =
      { state := s.withChannel z { s.zones.channels[z] with changed := false }
        answer := .data (setpointPayload z f (s.formatFields f).schedules[z]) } := by
  unfold setpointReply
  split
  · next ungoverned => cases ungoverned.symm.trans governs
  · next g found => cases found.symm.trans governs; rfl

theorem formatFields_of_entry {f : Nat} {entry : FormatEntry} (defined : s.format f = some entry) :
    s.formatFields f = entry := by
  unfold State.formatFields
  rw [defined]
  rfl

theorem setpointPayload_eq (z : Zone) (f : Nat) (y : ZoneSchedule) :
    setpointPayload z f y =
      [BitVec.ofNat 8 z.val, BitVec.ofNat 8 f] ++ twoBytes y.temperature ++
        [BitVec.ofNat 8 y.temperatureTolerance, BitVec.ofNat 8 y.temperatureLimit,
          BitVec.ofNat 8 y.humidity, BitVec.ofNat 8 y.humidityTolerance,
          BitVec.ofNat 8 y.humidityLimit] := by
  unfold setpointPayload ZoneSchedule.bytes
  rw [beBytes_two]
  rfl

theorem flagOf_of_out {b : Byte} (out : 1 < b.toNat) : flagOf b = none := by
  unfold flagOf
  split
  · omega
  · omega
  · rfl

theorem flagOf_of_flag {b : Byte} (flag : b.toNat ≤ 1) : flagOf b = some (decide (b.toNat = 1)) := by
  unfold flagOf
  rcases Nat.le_one_iff_eq_zero_or_eq_one.1 flag with off | on
  · rw [off]; rfl
  · rw [on]; rfl

/-- A flag written after the end of a frame, or before it. -/
theorem changeLink_quiet_endFrame (s : State) (link : Link) (on : Bool) :
    (s.endFrame link).changeLink link (fun c => { c with quiet := on }) =
      (s.changeLink link fun c => { c with quiet := on }).endFrame link := by
  simp [State.endFrame, State.changeLink, Vector.set_set]

end SetpointQuiet

/-- Settles O44: SETPOINT by whether a format governs the zone, QUIET by the flag. -/
theorem setpointAndQuiet : Obligations.SetpointAndQuiet := by
  refine ⟨fun s link z ready => ?_, fun s link z flag ready => ⟨fun out => ?_, fun valid => ?_⟩⟩
  · intro read
    have reply := onZone_endFrame ready setpointReply
    refine ⟨fun ungoverned => ?_, fun f entry governs defined => ?_⟩
    · rw [setpointReply_of_none (s := s.endFrame link) ungoverned] at reply
      exact congrArg Host.Outcome.next (serve_reply s link (t := read) (a := .noSchedule) ready.1
        (isZone_of_readyAs ready) rfl reply)
    · rw [setpointReply_of_format (s := s.endFrame link) governs,
        formatFields_of_entry (s := s.endFrame link) defined] at reply
      intro schedule
      rw [← setpointPayload_eq]
      exact congrArg Host.Outcome.next (serve_data s link (t := read) (j := none) ready.1
        (isZone_of_readyAs ready) rfl reply)
  · have reply : quietReply link flag (s.endFrame link) = refuse (s.endFrame link) .range := by
      unfold quietReply
      rw [flagOf_of_out out]
    exact congrArg Host.Outcome.next (serve_refuse s link ready.1 (isZone_of_readyAs ready) reply)
  · have reply : quietReply link flag (s.endFrame link) =
        accept ((s.changeLink link fun c =>
          { c with quiet := decide (flag.toNat = 1) }).endFrame link) := by
      unfold quietReply
      rw [flagOf_of_flag valid, ← changeLink_quiet_endFrame]
    exact congrArg Host.Outcome.next (serve_endFrame s link (a := .accepted) ready.1
      (isZone_of_readyAs ready) reply)

/-! ## CLIMATE (R104, R105, R107, R110, R171) -/

section Climate
variable {s : State} {link : Link} {z : Zone} {r : Report}

theorem climateReply_of_refusal {reason : Reason} (refused : s.climateRefusal z r = some reason) :
    climateReply r z s = refuse s reason := by
  unfold climateReply
  rw [refused]

theorem climateReply_of_none (accepted : s.climateRefusal z r = none) :
    climateReply r z s = accept (s.acceptReport z r) := by
  unfold climateReply
  rw [accepted]

theorem acceptReport_endFrame (s : State) (link : Link) (z : Zone) (r : Report) :
    (s.endFrame link).acceptReport z r = (s.acceptReport z r).endFrame link := by
  have offered : (s.endFrame link).offerCapture z r = (s.offerCapture z r).endFrame link := by
    unfold State.offerCapture
    rw [show (s.endFrame link).captureRecord z r = s.captureRecord z r from rfl]
    cases s.captureRecord z r <;> rfl
  unfold State.acceptReport
  dsimp only
  rw [offered, ← routeAll_endFrame]
  rfl

/-- A report that is loud is answered like any request. -/
theorem serveClimate_of_loud (loud : s.links[link].quiet = false) :
    s.serveClimate link r = s.serve link isZone (onZone link (climateReply r)) :=
  if_neg fun both => by rw [loud] at both; exact absurd both.2.1 nofun

/-- A report on a quiet link is taken without an answer. -/
theorem serveClimate_of_quiet (ready : s.readyAs link (.zone z)) (quiet : s.links[link].quiet = true) :
    s.serveClimate link r =
      (s.endFrame link).quietReport link (climateReply r z (s.endFrame link)) := by
  unfold State.serveClimate
  rw [if_pos ⟨arrival_of_ready ready.1, quiet, isZone_of_readyAs ready⟩, limitExpiry_of_ready ready.1]
  dsimp only
  rw [onZone_endFrame ready]

/-- The part after a report on a quiet link: the frame has ended, and nothing is sent (R110). -/
abbrev State.quietly (s : State) (link : Link) : State :=
  { s with
    links := s.links.set link
      { s.links[link] with receiver := .hunt, contended := false, sent := [] } }

theorem quietReport_accept (s t : State) (link : Link) :
    s.quietReport link (accept (t.endFrame link)) = t.quietly link := by
  simp [State.quietReport, accept, State.changeLink, State.endFrame, Vector.set_set]

theorem quietReport_refuse (s : State) (link : Link) (reason : Reason) (reply : State) :
    (s.endFrame link).quietReport link (refuse reply reason) =
      State.quietly
        { s with links := s.links.set link { s.links[link] with lastError := .refusal reason } }
        link := by
  simp [State.quietReport, refuse, State.changeLink, State.endFrame, Vector.set_set]

theorem acceptReport_of_none (ungoverned : s.zones.channels[z].governing = none) :
    s.acceptReport z r = s.withChannel z { s.zones.channels[z] with
      report := some r, reportClass := .ok, staleness := 0, state := .reporting } := by
  unfold State.acceptReport State.classOfReport State.schedule State.offerCapture State.captureRecord
  rw [ungoverned]
  rfl

/-- The record that a report of a governed zone fills. -/
def State.filledRecord (s : State) (z : Zone) (r : Report) (f : Nat) (entry : FormatEntry) :
    CaptureRecord :=
  { reportClass := classify entry.schedules[z] r, governing := f, temperature := r.temperature
    humidity := r.humidity, temperatureSetpoint := entry.schedules[z].temperature
    humiditySetpoint := entry.schedules[z].humidity, tick := s.exposure.tick
    stepNumber := s.track.stepNumber }

theorem acceptReport_of_format {f : Nat} {entry : FormatEntry}
    (governs : s.zones.channels[z].governing = some f) (defined : s.format f = some entry) :
    s.acceptReport z r =
      State.routeAll
        { s.withChannel z { s.zones.channels[z] with
            report := some r, reportClass := classify entry.schedules[z] r, staleness := 0,
            state := .reporting } with
          router := { s.router with
            captures :=
              s.router.captures.set z (s.router.captures[z].offer (s.filledRecord z r f entry)) } }
        (classify entry.schedules[z] r).events := by
  have class_ : s.classOfReport z r = classify entry.schedules[z] r := by
    unfold State.classOfReport State.schedule
    rw [governs, Option.map_some, formatFields_of_entry defined]
  have record : s.captureRecord z r = some (s.filledRecord z r f entry) := by
    unfold State.captureRecord
    rw [governs, Option.map_some, class_, formatFields_of_entry defined]
    rfl
  unfold State.acceptReport State.offerCapture
  dsimp only
  rw [class_, record]
  rfl

end Climate

/-- Settles O45: the refusal of R104 or the accepted report, on a loud link and on a quiet one. -/
theorem climateIsTakenOrRefused : Obligations.ClimateIsTakenOrRefused := by
  intro s link z format temperature humidity doseRate ready c report reason quietly command
  have refusal_eq : (s.endFrame link).climateRefusal z report = reason := by
    have rate := doseRate.isLt
    have within : (inRange 0 16 format.toNat && inRange 0 1500 temperature.toNat &&
        inRange 0 100 humidity.toNat && inRange 0 255 doseRate.toNat) = true ↔
          ¬ (16 < format.toNat ∨ 1500 < temperature.toNat ∨ 100 < humidity.toNat) := by
      simp only [Bool.and_eq_true, inRange_iff]
      omega
    unfold State.climateRefusal
    simp only [reason, firstReason, decide_eq_true_eq]
    simp only [report, within, not_not, eq_comm (a := format.toNat), ne_eq]
    rfl
  have loudly (loud : s.links[link].quiet = false) :
      exec command s = .next (s.serve link isZone (onZone link (climateReply report))) :=
    congrArg Host.Outcome.next (serveClimate_of_loud loud)
  have silently (quiet : s.links[link].quiet = true) : exec command s =
      .next ((s.endFrame link).quietReport link (climateReply report z (s.endFrame link))) :=
    congrArg Host.Outcome.next (serveClimate_of_quiet ready quiet)
  refine ⟨fun r refused => ?_, fun accepted => ?_⟩
  · have reply := climateReply_of_refusal (refusal_eq.trans refused)
    refine ⟨fun loud => ?_, fun quiet => ?_⟩
    · rw [loudly loud, serve_refuse s link ready.1 (isZone_of_readyAs ready)
        ((onZone_endFrame ready _).trans reply)]
    · rw [silently quiet, reply, quietReport_refuse]
  · have reply := climateReply_of_none (refusal_eq.trans accepted)
    rw [acceptReport_endFrame] at reply
    have takes : (s.links[link].quiet = false →
          exec command s = .next ((s.acceptReport z report).answered link .accepted)) ∧
        (s.links[link].quiet = true →
          exec command s = .next (quietly (s.acceptReport z report))) := by
      refine ⟨fun loud => ?_, fun quiet => ?_⟩
      · rw [loudly loud, serve_endFrame s link (a := .accepted) ready.1 (isZone_of_readyAs ready)
          ((onZone_endFrame ready _).trans reply)]
        rfl
      · rw [silently quiet, reply, quietReport_accept]
    refine ⟨fun ungoverned => ?_, fun f entry governs defined => ?_⟩
    · intro taken
      rw [acceptReport_of_none ungoverned] at takes
      exact takes
    · intro k offered taken raised
      have raised_eq : s.acceptReport z report = raised := by
        rw [acceptReport_of_format governs defined]
        change State.routeAll taken k.events = raised
        cases class_ : k <;> simp only [raised, class_] <;> rfl
      rw [raised_eq] at takes
      exact takes

end Sys2Proof.Machine
end

section
/-! PROOFS. The authority unit: RELEASE, PURGE, the checks of a configuration edit, LOCK_CONFIG,
SET_TRACK_LENGTH and SET_INTERVAL (R22, R84, R115, R147, R150, R152, R153, R155 to R158, R160). -/

namespace Sys2Proof.Machine

/-! ## RELEASE (R84, R147, R153) -/

section LoseClaim

theorem loseClaim_changeover (s : State) :
    s.loseClaim .changeover =
      { s with
        authority := { s.authority with
          claims := { s.authority.claims with changeover := none } }
        admission := { s.admission with
          mode := match s.admission.mode with
            | .changeover _ _ => .open_
            | .open_ => .open_
            | .closed => .closed } } := by
  obtain ⟨_, ⟨_, _, _, mode, _⟩, _, _, _, _, _, _, _, _⟩ := s
  cases mode <;> rfl

theorem loseClaim_purge (s : State) :
    s.loseClaim .purge =
      { s with
        authority := { s.authority with
          claims := { s.authority.claims with purge := none }, drain := false }
        admission := { s.admission with
          mode := if s.authority.drain then .open_ else s.admission.mode } } := by
  obtain ⟨_, _, _, _, _, _, ⟨_, drain, _, _⟩, _, _, _⟩ := s
  cases drain <;> rfl

variable {s : State} {link : Link} {kind : Byte} {k : ClaimKind}

theorem releaseReply_of_out (out : 3 ≤ kind.toNat) : releaseReply link kind s = refuse s .range := by
  unfold releaseReply
  rw [claimKindOf_of_out out]

theorem releaseReply_of_kind (named : claimKindOf kind = some k) :
    releaseReply link kind s =
      if s.holds link k then accept (s.loseClaim k) else refuse s .claim := by
  unfold releaseReply
  rw [named]

theorem releaseReply_of_free (named : claimKindOf kind = some k)
    (free : s.authority.claims.holder k ≠ some link) :
    releaseReply link kind s = refuse s .claim :=
  (releaseReply_of_kind named).trans (if_neg fun held => free (of_decide_eq_true held))

theorem releaseReply_of_held (named : claimKindOf kind = some k)
    (held : s.authority.claims.holder k = some link) :
    releaseReply link kind s = accept (s.loseClaim k) :=
  (releaseReply_of_kind named).trans (if_pos (decide_eq_true held))

theorem loseClaim_endFrame (s : State) (link : Link) (k : ClaimKind) :
    (s.endFrame link).loseClaim k = (s.loseClaim k).endFrame link := by
  cases k with
  | changeover => rw [loseClaim_changeover, loseClaim_changeover]; rfl
  | purge => rw [loseClaim_purge, loseClaim_purge]; rfl
  | reconfigure => rfl

end LoseClaim

/-- Settles O48: the checks of R147, and what the end of each claim undoes. -/
theorem releaseEndsTheClaimAndItsWork : Obligations.ReleaseEndsTheClaimAndItsWork := by
  intro s link kind ready bound claims reason
  have may : isSupervisorOrSpreader s.links[link].class_ = true := isSupervisorOrSpreader_iff.2 bound
  refine ⟨fun r refused => ?_, fun accepted => ?_⟩
  · have reply : releaseReply link kind (s.endFrame link) = refuse (s.endFrame link) r := by
      simp only [reason, firstReason_eq_some, firstReason_nil, decide_eq_true_eq,
        decide_eq_false_iff_not] at refused
      rcases refused with ⟨out, rfl⟩ | ⟨_, ⟨⟨zero, free⟩, rfl⟩ | ⟨_, ⟨⟨one, free⟩, rfl⟩ |
        ⟨_, ⟨⟨two, free⟩, rfl⟩ | ⟨_, noReason⟩⟩⟩⟩
      · exact releaseReply_of_out out
      · exact releaseReply_of_free (s := s.endFrame link) (claimKindOf_of_zero zero) free
      · exact releaseReply_of_free (s := s.endFrame link) (claimKindOf_of_one one) free
      · exact releaseReply_of_free (s := s.endFrame link) (claimKindOf_of_two two) free
      · cases noReason
    exact congrArg Host.Outcome.next (serve_refuse s link ready may reply)
  · simp only [reason, firstReason_eq_none, decide_eq_false_iff_not, not_and, not_not] at accepted
    obtain ⟨_, changeover, purge, reconfigure, _⟩ := accepted
    have releases {k : ClaimKind} (named : claimKindOf kind = some k)
        (held : s.authority.claims.holder k = some link) :
        exec (.release link kind) s = .next ((s.loseClaim k).answered link .accepted) := by
      have reply := releaseReply_of_held (s := s.endFrame link) named held
      rw [loseClaim_endFrame] at reply
      exact congrArg Host.Outcome.next (serve_endFrame s link (a := .accepted) ready may reply)
    refine ⟨fun zero => ?_, fun one => ?_, fun two => ?_⟩
    · exact (releases (claimKindOf_of_zero zero) (changeover zero)).trans (congrArg
        (fun t : State => Host.Outcome.next (t.answered link .accepted)) (loseClaim_changeover s))
    · exact (releases (claimKindOf_of_one one) (purge one)).trans (congrArg
        (fun t : State => Host.Outcome.next (t.answered link .accepted)) (loseClaim_purge s))
    · exact releases (claimKindOf_of_two two) (reconfigure two)

/-! ## PURGE (R150, R152) -/

section Purge
variable {s : State} {link : Link}

theorem holds_purge : s.holds link .purge = true ↔ s.authority.claims.purge = some link :=
  decide_eq_true_iff

theorem purgeReply_of_free (free : s.authority.claims.purge ≠ some link) :
    purgeReply link s = refuse s .claim := if_pos fun held => free (holds_purge.1 held)

variable (held : s.authority.claims.purge = some link)
include held

theorem purgeReply_of_drain (drain : s.authority.drain = true) : purgeReply link s = refuse s .state :=
  (if_neg (not_not.2 (holds_purge.2 held))).trans (if_pos drain)

variable (noDrain : s.authority.drain = false)
include noDrain

theorem purgeReply_of_still (still : s.track.motion = .stopped ∨ s.track.motion = .holding) :
    purgeReply link s = refuse s .state := by
  unfold purgeReply
  rw [if_neg (not_not.2 (holds_purge.2 held)), if_neg (by rw [noDrain]; nofun)]
  rcases still with m | m <;> rw [m]

theorem purgeReply_of_moving (moving : ¬ (s.track.motion = .stopped ∨ s.track.motion = .holding)) :
    purgeReply link s = accept s.beginDrain := by
  unfold purgeReply
  rw [if_neg (not_not.2 (holds_purge.2 held)), if_neg (by rw [noDrain]; nofun)]
  split
  · next m => exact absurd (.inl m) moving
  · next m => exact absurd (.inr m) moving
  all_goals rfl

end Purge

theorem isEmpty_iff (t : TrackControl) : t.isEmpty = true ↔ ∀ x ∈ t.slots, x = none := by
  simp [TrackControl.isEmpty]

theorem beginDrain_of_rest {s : State} (empty : s.track.isEmpty = true) (idle : s.track.step = .idle) :
    s.beginDrain =
      { s with
        admission := { s.admission with mode := .closed }
        authority := { s.authority with
          drain := false, claims := { s.authority.claims with purge := none } }
        track := s.track.enterStopped } := by
  unfold State.beginDrain
  dsimp only
  rw [if_pos idle, State.checkDrain, if_pos ⟨rfl, empty⟩]
  rfl

theorem beginDrain_of_noRest {s : State} (noRest : ¬ (s.track.isEmpty = true ∧ s.track.step = .idle)) :
    s.beginDrain =
      { s with
        admission := { s.admission with mode := .closed }
        authority := { s.authority with drain := true } } := by
  unfold State.beginDrain
  dsimp only
  split
  · next idle =>
    unfold State.checkDrain
    rw [if_neg fun both => noRest ⟨both.2, idle⟩]
    rfl
  · rfl

/-- Settles O49: the checks of R150 in order, and whether the drain is complete at once. -/
theorem purgeClosesAdmissionAndDrains : Obligations.PurgeClosesAdmissionAndDrains := by
  intro s link ready reason atRest closed
  have rest_iff : atRest ↔ s.track.isEmpty = true ∧ s.track.step = .idle := by rw [isEmpty_iff]
  have purges (none : reason = none) {t : State} (links : t.links = s.links)
      (begins : (s.endFrame link).beginDrain = { t with links := (s.endFrame link).links }) :
      exec (.purge link) s = .next (t.answered link .accepted) := by
    simp only [reason, firstReason_eq_none, decide_eq_false_iff_not, not_not] at none
    obtain ⟨held, noDrain, moving, _⟩ := none
    have reply := purgeReply_of_moving (s := s.endFrame link) held noDrain moving
    rw [begins] at reply
    exact congrArg Host.Outcome.next
      (serve_accept s link ready.1 (isSupervisor_of_readyAs ready) links reply)
  refine ⟨fun r refused => ?_, fun none noRest => ?_, fun none rest => ?_⟩
  · have reply : purgeReply link (s.endFrame link) = refuse (s.endFrame link) r := by
      simp only [reason, firstReason_eq_some, firstReason_nil, decide_eq_true_eq,
        decide_eq_false_iff_not, not_not] at refused
      rcases refused with ⟨free, rfl⟩ | ⟨held, ⟨drain, rfl⟩ | ⟨noDrain, ⟨still, rfl⟩ | ⟨_, noReason⟩⟩⟩
      · exact purgeReply_of_free (s := s.endFrame link) free
      · exact purgeReply_of_drain (s := s.endFrame link) held drain
      · exact purgeReply_of_still (s := s.endFrame link) held noDrain still
      · cases noReason
    exact congrArg Host.Outcome.next (serve_supervisor_refuse ready reply)
  · refine purges none ?_ (beginDrain_of_noRest (s := s.endFrame link) (mt rest_iff.2 noRest))
    rfl
  · obtain ⟨empty, idle⟩ := rest_iff.1 rest
    refine purges none ?_ (beginDrain_of_rest (s := s.endFrame link) empty idle)
    rfl

/-! ## The checks of every configuration edit, and LOCK_CONFIG (R156, R157) -/

section Edit
variable {s : State} {link : Link}

theorem editRefusal_of_locked (locked : s.authority.lock = true) :
    s.editRefusal link = some .locked := if_pos locked

variable (unlocked : s.authority.lock = false)
include unlocked

theorem editRefusal_of_free (free : s.authority.claims.reconfigure ≠ some link) :
    s.editRefusal link = some .claim :=
  (if_neg (by rw [unlocked]; nofun)).trans (if_neg fun held => free (of_decide_eq_true held))

theorem editRefusal_of_held (held : s.authority.claims.reconfigure = some link) :
    s.editRefusal link = none :=
  (if_neg (by rw [unlocked]; nofun)).trans (if_pos (decide_eq_true held))

end Edit

section OnEdit
variable {s : State} {link : Link} {body : State → Reply}

theorem onEdit_of_refusal {r : Reason} (refused : s.editRefusal link = some r) :
    onEdit link body s = refuse s r := by
  unfold onEdit
  rw [refused]

theorem onEdit_of_none (open_ : s.editRefusal link = none) : onEdit link body s = body s := by
  unfold onEdit
  rw [open_]

theorem lockConfigReply_of_refusal {r : Reason} (refused : s.editRefusal link = some r) :
    lockConfigReply link s = refuse s r := by
  unfold lockConfigReply
  rw [refused]

theorem lockConfigReply_of_none (open_ : s.editRefusal link = none) :
    lockConfigReply link s =
      accept ((s.setHolder .reconfigure none).mapAuthority fun a => { a with lock := true }) := by
  unfold lockConfigReply
  rw [open_]

/-- Any configuration edit of a supervisor is refused by the checks of R156. -/
theorem exec_edit_of_refusal (ready : s.readyAs link .supervisor) {c : Instr} {r : Reason}
    (edit : c = .lockConfig link ∨ (∃ length, c = .setTrackLength link length) ∨
      (∃ zone base limit, c = .setWindow link zone base limit) ∨
      (∃ entry, c = .setFormat link entry) ∨ ∃ selector value, c = .setInterval link selector value)
    (refused : s.editRefusal link = some r) :
    exec c s = .next (s.answered link (.refused r)) := by
  rw [← editRefusal_endFrame (link := link)] at refused
  have edits {body : State → Reply} : s.serve link isSupervisor (onEdit link body) =
      s.answered link (.refused r) := serve_supervisor_refuse ready (onEdit_of_refusal refused)
  rcases edit with rfl | ⟨_, rfl⟩ | ⟨_, _, _, rfl⟩ | ⟨_, rfl⟩ | ⟨_, _, rfl⟩
  · exact congrArg Host.Outcome.next
      (serve_supervisor_refuse ready (lockConfigReply_of_refusal refused))
  all_goals exact congrArg Host.Outcome.next edits

/-- An edit that may be made, accepted with the part `t`. -/
theorem serve_edit_accept (ready : s.readyAs link .supervisor) (open_ : s.editRefusal link = none)
    {t : State} (links : t.links = s.links)
    (reply : body (s.endFrame link) = accept { t with links := (s.endFrame link).links }) :
    s.serve link isSupervisor (onEdit link body) = t.answered link .accepted := by
  rw [← editRefusal_endFrame (link := link)] at open_
  exact serve_accept s link ready.1 (isSupervisor_of_readyAs ready) links
    ((onEdit_of_none open_).trans reply)

theorem serve_edit_refuse (ready : s.readyAs link .supervisor) (open_ : s.editRefusal link = none)
    {r : Reason} (reply : body (s.endFrame link) = refuse (s.endFrame link) r) :
    s.serve link isSupervisor (onEdit link body) = s.answered link (.refused r) := by
  rw [← editRefusal_endFrame (link := link)] at open_
  exact serve_supervisor_refuse ready ((onEdit_of_none open_).trans reply)

end OnEdit

/-- Settles O50: the checks of R156 for every edit, then LOCK_CONFIG. -/
theorem editsAndLockConfig : Obligations.EditsAndLockConfig := by
  refine ⟨fun s link c ready edit => ⟨fun locked => ?_, fun unlocked free => ?_⟩,
    fun s link ready => ⟨fun locked => ?_, fun unlocked free => ?_, fun unlocked held => ?_⟩⟩
  · exact exec_edit_of_refusal ready edit (editRefusal_of_locked locked)
  · exact exec_edit_of_refusal ready edit (editRefusal_of_free unlocked free)
  · exact exec_edit_of_refusal ready (.inl rfl) (editRefusal_of_locked locked)
  · exact exec_edit_of_refusal ready (.inl rfl) (editRefusal_of_free unlocked free)
  · have reply := lockConfigReply_of_none
      (editRefusal_of_held (s := s.endFrame link) (link := link) unlocked held)
    exact congrArg Host.Outcome.next (serve_accept s link
      (t := (s.setHolder .reconfigure none).mapAuthority fun a => { a with lock := true }) ready.1
      (isSupervisor_of_readyAs ready) rfl reply)

/-! ## SET_TRACK_LENGTH (R22, R158) -/

theorem windowBeyond_iff (s : State) (length : Nat) :
    s.windowBeyond length = true ↔
      ∃ z : Zone, s.zones.channels[z].enabled = true ∧ length ≤ s.zones.channels[z].limit := by
  unfold State.windowBeyond
  rw [List.any_eq_true]
  simp only [List.mem_finRange, true_and, Bool.and_eq_true, decide_eq_true_eq]

section Length
variable {s : State} {length : Nat}

theorem setTrackLengthEdit_of_refused
    (refused : length < 16 ∨ 1024 < length ∨
      ∃ z : Zone, s.zones.channels[z].enabled = true ∧ length ≤ s.zones.channels[z].limit) :
    setTrackLengthEdit length s = refuse s .range := by
  unfold setTrackLengthEdit
  split
  · rfl
  · next within =>
    rw [not_not, inRange_iff] at within
    obtain ⟨low, high⟩ : 16 ≤ length ∧ length ≤ 1024 := within
    rcases refused with short | long | beyond
    · omega
    · omega
    · exact if_pos ((windowBeyond_iff s length).2 beyond)

theorem setTrackLengthEdit_of_accepted
    (accepted : ¬ (length < 16 ∨ 1024 < length ∨
      ∃ z : Zone, s.zones.channels[z].enabled = true ∧ length ≤ s.zones.channels[z].limit)) :
    setTrackLengthEdit length s =
      accept (s.mapTrack fun t => { t with slots := List.replicate length none }) := by
  simp only [not_or, Nat.not_lt] at accepted
  obtain ⟨low, high, inside⟩ := accepted
  have within : inRange Config.trackMin Config.trackMax length = true :=
    (inRange_iff _ _ _).2 ⟨low, high⟩
  unfold setTrackLengthEdit
  rw [if_neg (not_not.2 within), if_neg (mt (windowBeyond_iff s length).1 inside)]

end Length

/-! ## SET_INTERVAL (R115, R155, R160) -/

section Interval
variable {b : Byte}

theorem intervalOf_of_out (out : 4 < b.toNat) : intervalOf b = none := by
  unfold intervalOf
  split
  any_goals omega
  rfl

/-- The selectors in their order. -/
def Interval.code : Interval → Nat
  | .settle => 0
  | .advanceLimit => 1
  | .exitWaitLimit => 2
  | .exposure => 3
  | .stalenessLimit => 4

theorem intervalOf_of_code {k : Interval} (code : b.toNat = k.code) : intervalOf b = some k := by
  unfold intervalOf
  rw [code]
  cases k <;> rfl

theorem exec_setInterval_of_out {s : State} {link : Link} (ready : s.readyAs link .supervisor)
    (open_ : s.editRefusal link = none) (out : 4 < b.toNat) (value : BitVec 16) :
    exec (.setInterval link b value) s = .next (s.answered link (.refused .range)) := by
  have reply : setIntervalEdit b value.toNat (s.endFrame link) = refuse (s.endFrame link) .range := by
    unfold setIntervalEdit
    rw [intervalOf_of_out out]
  exact congrArg Host.Outcome.next (serve_edit_refuse ready open_ reply)

/-- SET_INTERVAL of a selector writes its value where that is within the selector's range. -/
theorem exec_setInterval_of_code {s : State} {link : Link} (ready : s.readyAs link .supervisor)
    (open_ : s.editRefusal link = none) {k : Interval} (code : b.toNat = k.code) (value : BitVec 16)
    {valid : Prop} [Decidable valid] (range : intervalInRange k value.toNat = true ↔ valid) :
    exec (.setInterval link b value) s =
      .next (if valid then (s.writeInterval value.toNat k).answered link .accepted
        else s.answered link (.refused .range)) := by
  have reply : setIntervalEdit b value.toNat (s.endFrame link) =
      if intervalInRange k value.toNat then accept ((s.endFrame link).writeInterval value.toNat k)
      else refuse (s.endFrame link) .range := by
    unfold setIntervalEdit
    rw [intervalOf_of_code code]
  refine congrArg Host.Outcome.next ?_
  by_cases within : valid
  · rw [if_pos within]
    refine serve_edit_accept ready open_ (writeInterval_links _ _ _)
      ((reply.trans (if_pos (range.2 within))).trans ?_)
    cases k <;> rfl
  · rw [if_neg within]
    exact serve_edit_refuse ready open_ (reply.trans (if_neg (mt range.1 within)))

end Interval

/-- Settles O51: the range of a track length, and the range and the value of each selector. -/
theorem setTrackLengthAndSetInterval : Obligations.SetTrackLengthAndSetInterval := by
  refine ⟨?_, ?_⟩
  · intro s link length ready unlocked held refused
    have open_ := editRefusal_of_held unlocked held
    refine ⟨fun refuses => ?_, fun accepts => ?_⟩
    · exact congrArg Host.Outcome.next (serve_edit_refuse ready open_
        (setTrackLengthEdit_of_refused (s := s.endFrame link) refuses))
    · exact congrArg Host.Outcome.next (serve_edit_accept ready open_
        (t := s.mapTrack fun t => { t with slots := List.replicate length.toNat none }) rfl
        (setTrackLengthEdit_of_accepted (s := s.endFrame link) accepts))
  · intro s link selector value ready unlocked held command v refused
    have open_ := editRefusal_of_held unlocked held
    have word : value.toNat ≤ 65535 := Nat.lt_succ_iff.1 value.isLt
    refine ⟨fun out => exec_setInterval_of_out ready open_ out value, fun code => ?_, fun code => ?_,
      fun code => ?_, fun code => ?_, fun code => ?_⟩
    · refine exec_setInterval_of_code ready open_ (k := .settle) code value ?_
      simp [intervalInRange, inRange_iff, v]
    · exact exec_setInterval_of_code ready open_ (k := .advanceLimit) code value (inRange_iff _ _ _)
    · refine exec_setInterval_of_code ready open_ (k := .exitWaitLimit) code value ?_
      simp [intervalInRange, inRange_iff, v, word]
    · refine (exec_setInterval_of_code ready open_ (k := .exposure) code value (valid := True) ?_)
      simp [intervalInRange, inRange_iff, word]
    · exact exec_setInterval_of_code ready open_ (k := .stalenessLimit) code value (inRange_iff _ _ _)

end Sys2Proof.Machine
end

section
/-! PROOFS. The authority unit: SET_WINDOW and SET_FORMAT (R93 to R95, R98, R101, R159). -/

namespace Sys2Proof.Machine

/-! ## SET_WINDOW (R94, R95) -/

theorem covers_iff (c : ZoneChannel) (p : Nat) : c.covers p = true ↔ c.base ≤ p ∧ p ≤ c.limit := by
  unfold ZoneChannel.covers
  rw [Bool.and_eq_true, decide_eq_true_iff, decide_eq_true_iff]

theorem enabled_iff (c : ZoneChannel) : c.enabled = true ↔ c.base ≤ c.limit := decide_eq_true_iff

/-- Two enabled windows meet where they share a position (R94). -/
theorem windowsMeet_iff {base limit : Nat} (ordered : base ≤ limit) (c : ZoneChannel) :
    (c.enabled = true ∧ windowsMeet base limit c.base c.limit = true) ↔
      ∃ p, c.covers p = true ∧ base ≤ p ∧ p ≤ limit := by
  simp only [enabled_iff, covers_iff, windowsMeet, Bool.and_eq_true, decide_eq_true_eq]
  constructor
  · rintro ⟨enabled, below, above⟩
    refine ⟨max base c.base, ?_, ?_, ?_⟩ <;> omega
  · rintro ⟨p, inside, first, last⟩
    omega

theorem windowTaken_iff (s : State) (z : Zone) {base limit : Nat} (ordered : base ≤ limit) :
    s.windowTaken z base limit = true ↔
      ∃ (o : Zone) (p : Nat), o ≠ z ∧ s.zones.channels[o].covers p = true ∧ base ≤ p ∧ p ≤ limit := by
  unfold State.windowTaken
  rw [List.any_eq_true]
  simp only [List.mem_finRange, true_and, Bool.and_eq_true, decide_eq_true_eq, and_assoc,
    windowsMeet_iff ordered, exists_and_left]

section Window
variable {s : State} {zone : Byte} {base limit : Nat} {z : Zone}

/-- What SET_WINDOW refuses of a window within the position range (R94). -/
def State.refusesWindow (s : State) (z : Zone) (base limit : Nat) : Prop :=
  base ≤ limit ∧ (s.track.length ≤ limit + 1 ∨
    ∃ (o : Zone) (p : Nat), o ≠ z ∧ s.zones.channels[o].covers p = true ∧ base ≤ p ∧ p ≤ limit)

theorem setWindowEdit_of_out (out : 7 < zone.toNat ∨ 1023 < base ∨ 1023 < limit) :
    setWindowEdit zone base limit s = refuse s .range := by
  unfold setWindowEdit
  split
  · rfl
  · next z named =>
    refine if_pos fun within => ?_
    simp only [Bool.and_eq_true, inRange_iff] at within
    obtain ⟨⟨_, lowBase⟩, _, lowLimit⟩ := within
    rcases out with high | high | high
    · rw [zoneOf_of_lt high] at named
      cases named
    · omega
    · omega

variable (named : zone.toNat = z.val) (lowBase : base ≤ 1023) (lowLimit : limit ≤ 1023)
include named lowBase lowLimit

theorem setWindowEdit_of_zone :
    setWindowEdit zone base limit s =
      if base ≤ limit ∧ s.track.length ≤ limit + 1 then refuse s .range
      else if base ≤ limit ∧ s.windowTaken z base limit = true then refuse s .range
      else accept (s.changeChannel z fun c =>
        c.setWindow base limit (s.governingFormat base limit)).recomputeZones := by
  have within : (inRange 0 1023 base && inRange 0 1023 limit) = true := by
    rw [Bool.and_eq_true, inRange_iff, inRange_iff]
    omega
  unfold setWindowEdit
  rw [zoneOf_of_eq named]
  exact if_neg (not_not.2 within)

theorem setWindowEdit_of_refused (refused : s.refusesWindow z base limit) :
    setWindowEdit zone base limit s = refuse s .range := by
  obtain ⟨ordered, short | shared⟩ := refused
  · exact (setWindowEdit_of_zone named lowBase lowLimit).trans (if_pos ⟨ordered, short⟩)
  · rw [setWindowEdit_of_zone named lowBase lowLimit]
    split
    · rfl
    · exact if_pos ⟨ordered, (windowTaken_iff s z ordered).2 shared⟩

theorem setWindowEdit_of_accepted (accepted : ¬ s.refusesWindow z base limit) :
    setWindowEdit zone base limit s = accept (s.changeChannel z fun c =>
      c.setWindow base limit (s.governingFormat base limit)).recomputeZones := by
  rw [setWindowEdit_of_zone named lowBase lowLimit, if_neg, if_neg]
  · rintro ⟨ordered, shared⟩
    exact accepted ⟨ordered, .inr ((windowTaken_iff s z ordered).1 shared)⟩
  · rintro ⟨ordered, short⟩
    exact accepted ⟨ordered, .inl short⟩

end Window

section Channel
variable {c : ZoneChannel} {base limit : Nat} {governing : Option Nat}

theorem setWindow_of_enables (off : c.enabled = false) (enabling : base ≤ limit) :
    c.setWindow base limit governing =
      { c with base := base, limit := limit, state := .awaiting, governing := governing,
               staleness := 0, report := none, reportClass := .ok, changed := true } :=
  (if_pos enabling).trans (if_neg (by rw [off]; nofun))

theorem setWindow_of_moves (on : c.enabled = true) (enabling : base ≤ limit) :
    c.setWindow base limit governing = { c with base := base, limit := limit } :=
  (if_pos enabling).trans (if_pos on)

theorem setWindow_of_disables (on : c.enabled = true) (disabling : ¬ base ≤ limit) :
    c.setWindow base limit governing =
      { c with base := base, limit := limit, state := .off, governing := none, report := none,
               reportClass := .ok, staleness := 0, changed := false } :=
  (if_neg disabling).trans (if_pos on)

theorem setWindow_of_stays (off : c.enabled = false) (disabling : ¬ base ≤ limit) :
    c.setWindow base limit governing = { c with base := base, limit := limit } :=
  (if_neg disabling).trans (if_neg (by rw [off]; nofun))

end Channel

/-- Settles O52: the checks of R94, then the four moves of a window between enabled and disabled. -/
theorem setWindowMovesAWindow : Obligations.SetWindowMovesAWindow := by
  intro s link zone base limit ready unlocked held command
  have open_ := editRefusal_of_held unlocked held
  refine ⟨fun out => congrArg Host.Outcome.next (serve_edit_refuse ready open_
    (setWindowEdit_of_out (s := s.endFrame link) out)), fun z named lowBase lowLimit => ?_⟩
  intro c enabling refused moved answer
  have answers (accepted : ¬ refused) {d : ZoneChannel}
      (channel : c.setWindow base.toNat limit.toNat (s.governingFormat base.toNat limit.toNat) = d) :
      exec command s = .next (answer d) := by
    have reply := setWindowEdit_of_accepted (s := s.endFrame link) named lowBase lowLimit accepted
    rw [← channel]
    exact congrArg Host.Outcome.next (serve_edit_accept ready open_
      (t := (s.withChannel z (c.setWindow base.toNat limit.toNat
        (s.governingFormat base.toNat limit.toNat))).recomputeZones) rfl reply)
  refine ⟨fun refuses => ?_, fun accepted off enables => ?_, fun accepted on enables => ?_,
    fun accepted on disables => ?_, fun accepted off disables => ?_⟩
  · exact congrArg Host.Outcome.next (serve_edit_refuse ready open_
      (setWindowEdit_of_refused (s := s.endFrame link) named lowBase lowLimit refuses))
  · exact answers accepted (setWindow_of_enables off enables)
  · exact answers accepted (setWindow_of_moves on enables)
  · exact answers accepted (setWindow_of_disables on disables)
  · exact answers accepted (setWindow_of_stays off disables)

/-! ## SET_FORMAT (R101, R159) -/

theorem formatInUse_iff (lots : LotTable) (format : Nat) :
    formatInUse lots format = true ↔ ∃ i : Fin 32, lots[i].map (·.format) = some format := by
  unfold formatInUse
  rw [List.any_eq_true]
  refine exists_congr fun i => ?_
  rw [and_iff_right (List.mem_finRange i)]
  cases lots[i] with
  | none => exact iff_of_false nofun nofun
  | some l => simp

theorem scheduleInRange_iff (y : ZoneSchedule) :
    scheduleInRange y = true ↔
      200 ≤ y.temperature ∧ y.temperature ≤ 1100 ∧ y.temperatureTolerance ≤ 100 ∧
        y.temperatureLimit ≤ 200 ∧ y.temperatureTolerance ≤ y.temperatureLimit ∧
        10 ≤ y.humidity ∧ y.humidity ≤ 95 ∧ y.humidityTolerance ≤ 20 ∧ y.humidityLimit ≤ 40 ∧
        y.humidityTolerance ≤ y.humidityLimit := by
  simp only [scheduleInRange, Bool.and_eq_true, inRange_iff, decide_eq_true_eq]
  omega

section Format
variable {s : State} {f : FormatOperand} {i : Fin 16}

/-- Every schedule of the entry that the operands spell is the one of its zone. -/
theorem formatEntryInRange_iff (f : FormatOperand) :
    formatEntryInRange (formatEntryOf f) = true ↔
      f.dryingClass.toNat ≤ 7 ∧ f.doseMinimum.toNat ≤ f.doseMaximum.toNat ∧
        f.doseMaximum.toNat ≤ 4194303 ∧
        ∀ z : Zone, scheduleInRange (scheduleOf f.schedules[z]) = true := by
  have lead := f.leadGap.isLt
  have tolerance := f.tolerance.isLt
  have maximum : Config.doseMax = 4194303 := rfl
  simp only [formatEntryInRange, formatEntryOf, Bool.and_eq_true, inRange_iff,
    List.all_eq_true, List.mem_finRange, true_implies, Fin.getElem_fin, Vector.getElem_ofFn]
  constructor
  · rintro ⟨⟨⟨⟨⟨⟨drying, _⟩, _⟩, dose⟩, ordered⟩, _⟩, schedules⟩
    exact ⟨drying.2, of_decide_eq_true ordered, dose.2, schedules⟩
  · rintro ⟨drying, ordered, dose, schedules⟩
    refine ⟨⟨⟨⟨⟨⟨⟨?_, drying⟩, ?_, ?_⟩, ?_, ?_⟩, ?_, dose⟩, decide_eq_true ordered⟩, ?_, ?_⟩, schedules⟩ <;> omega

theorem setFormatEdit_of_out
    (out : f.format.toNat = 0 ∨ 16 < f.format.toNat ∨ 1 < f.isDefined.toNat) :
    setFormatEdit f s = refuse s .range := by
  unfold setFormatEdit
  rcases out with zero | high | flag
  · rw [formatIndex_of_out (.inl zero)]
  · rw [formatIndex_of_out (.inr high)]
  · rw [flagOf_of_out flag]
    cases formatIndex f.format.toNat <;> rfl

variable (number : f.format.toNat = i.val + 1)
include number

theorem setFormatEdit_of_undefined (undefined : f.isDefined.toNat = 0) :
    setFormatEdit f s =
      if s.admission.running = some f.format.toNat ∨
          formatInUse s.registry.lots f.format.toNat = true then refuse s .state
      else accept (s.writeFormat i f.format.toNat none) := by
  unfold setFormatEdit
  rw [formatIndex_of_eq number, flagOf_of_flag (by omega), undefined]
  rfl

theorem setFormatEdit_of_defined (defined : f.isDefined.toNat = 1) :
    setFormatEdit f s =
      if formatEntryInRange (formatEntryOf f) then
        accept (s.writeFormat i f.format.toNat (some (formatEntryOf f)))
      else refuse s .range := by
  unfold setFormatEdit
  rw [formatIndex_of_eq number, flagOf_of_flag (by omega), defined]
  rfl

end Format

/-- Settles O53: the checks of R159 in order, for an entry that is undefined and one that is
defined. -/
theorem setFormatWritesTheEntry : Obligations.SetFormatWritesTheEntry := by
  intro s link entry ready unlocked held number inRange inUse written
  have open_ := editRefusal_of_held unlocked held
  have range_iff : formatEntryInRange (formatEntryOf entry) = true ↔ inRange := by
    simp only [formatEntryInRange_iff, scheduleInRange_iff, scheduleOf]
    rfl
  have inUse_iff : (s.admission.running = some number ∨
      formatInUse s.registry.lots number = true) ↔ inUse := by rw [formatInUse_iff]
  have refuses {r : Reason} (reply : setFormatEdit entry (s.endFrame link) =
      refuse (s.endFrame link) r) :
      exec (.setFormat link entry) s = .next (s.answered link (.refused r)) :=
    congrArg Host.Outcome.next (serve_edit_refuse ready open_ reply)
  have writes {i : Fin 16} {e : Option FormatEntry} (reply : setFormatEdit entry (s.endFrame link) =
      accept ((s.endFrame link).writeFormat i number e)) :
      exec (.setFormat link entry) s = .next ((written i e).answered link .accepted) := by
    have written_eq : s.writeFormat i number e = written i e := flagGoverned_eq_scheduleChanged _ _
    rw [← written_eq]
    exact congrArg Host.Outcome.next (serve_edit_accept ready open_ (writeFormat_links s i number e)
      reply)
  refine ⟨fun out => refuses (setFormatEdit_of_out out), fun i named => ⟨fun undefined used => ?_,
    fun undefined unused => ?_, fun defined out => ?_, fun defined within => ?_⟩⟩
  · exact refuses ((setFormatEdit_of_undefined (s := s.endFrame link) named undefined).trans
      (if_pos (inUse_iff.2 used)))
  · exact writes ((setFormatEdit_of_undefined (s := s.endFrame link) named undefined).trans
      (if_neg (mt inUse_iff.1 unused)))
  · exact refuses ((setFormatEdit_of_defined (s := s.endFrame link) named defined).trans
      (if_neg (mt range_iff.1 out)))
  · exact writes ((setFormatEdit_of_defined (s := s.endFrame link) named defined).trans
      (if_pos (range_iff.2 within)))

end Sys2Proof.Machine
end

section
/-! PROOFS. The router: what a raise does, READ_NOTES and the attention of a response (R55, R102, R165,
R167, R168). -/

namespace Sys2Proof.Machine

/-! ## Raises (R165) -/

section Raise
variable {s : State} {c : EventClass}

theorem route_of_nowhere (routed : s.router.routes[c.index] = .nowhere) : s.route c = s := by
  unfold State.route
  rw [routed]

theorem route_of_note (routed : s.router.routes[c.index] = .note) : s.route c = s.joinNotes c := by
  unfold State.route
  rw [routed]

theorem route_of_horn (routed : s.router.routes[c.index] = .horn) :
    s.route c = (s.joinNotes c).soundHorn := by
  unfold State.route
  rw [routed]

theorem route_of_stop (routed : s.router.routes[c.index] = .stop) {t : TrackControl}
    (adds : s.track.addCause .event = t) :
    s.route c = { (s.joinNotes c).soundHorn with track := t } := by
  rw [← adds]
  unfold State.route
  rw [routed]
  rfl

end Raise

/-- Settles O54, by the destination, and by what the EVENT cause does to the line. -/
theorem raisesApplyTheirDestination : Obligations.RaisesApplyTheirDestination := by
  intro s c noted sounded
  refine ⟨route_of_nowhere, route_of_note, route_of_horn, fun routed stopped => ?_, fun routed has => ?_,
    fun routed new onHold => ?_, fun routed new running => ⟨fun n advancing => ?_,
      fun notAdvancing notSuspended => ?_⟩⟩
  · exact route_of_stop routed (addCause_of_stopped .event s.track stopped)
  · exact route_of_stop routed (addCause_of_has has)
  · exact route_of_stop routed (addCause_of_onHold new onHold)
  · exact route_of_stop routed (addCause_of_advancing new running advancing)
  · exact route_of_stop routed (addCause_of_waiting new running notAdvancing notSuspended)

/-! ## READ_NOTES and attention (R102, R167, R168) -/

/-- The event classes are the twelve entries of a set. -/
theorem exists_class_of_index (i : Fin 12) : ∃ c : EventClass, c.index = i := by
  obtain ⟨c, _, index⟩ := eventClassOf_of_eq (b := BitVec.ofNat 8 (i.val + 1)) (i := i) (by
    rw [BitVec.toNat_ofNat]
    omega)
  exact ⟨c, index⟩

section Attention
variable {s : State} {link : Link}

theorem attention_of_supervisor (class_ : s.links[link].class_ = .supervisor) :
    s.attention link = true ↔ ∃ c : EventClass, s.router.notes[link][c.index] = true := by
  have entries : s.attention link = (List.finRange 12).any fun i => s.router.notes[link][i] := by
    unfold State.attention
    rw [class_]
  rw [entries, List.any_eq_true]
  constructor
  · rintro ⟨i, _, noted⟩
    obtain ⟨c, rfl⟩ := exists_class_of_index i
    exact ⟨c, noted⟩
  · rintro ⟨c, noted⟩
    exact ⟨c.index, List.mem_finRange c.index, noted⟩

theorem attention_of_zone {z : Zone} (class_ : s.links[link].class_ = .zone z) :
    s.attention link = s.zones.channels[z].changed := by
  unfold State.attention
  rw [class_]

theorem attention_of_other (class_ : s.links[link].class_ = .spreader ∨
    s.links[link].class_ = .stripper ∨ s.links[link].class_ = .unbound) :
    s.attention link = false := by
  unfold State.attention
  rcases class_ with e | e | e <;> rw [e]

end Attention

/-- Settles O55: the payload of READ_NOTES byte by byte, then attention by the class of the link. -/
theorem readNotesAndAttention : Obligations.ReadNotesAndAttention := by
  unfold Obligations.ReadNotesAndAttention
  intro destinationCode
  refine ⟨fun s link ready => ?_, fun s link =>
    ⟨attention_of_supervisor, fun z => attention_of_zone, attention_of_other⟩⟩
  intro numbers horn
  have destination (d : Destination) : byteOf d.code = destinationCode d := by cases d <;> rfl
  have class_numbers : (classNumbers s.router.notes[link]).map byteOf = numbers := List.map_map
  have length : (classNumbers s.router.notes[link]).length = numbers.length := by
    rw [← class_numbers, List.length_map]
  have payload : s.router.notesPayload link =
      [BitVec.ofNat 8 numbers.length] ++ numbers ++
        List.replicate (12 - numbers.length) 0 ++ [horn, horn] ++
        (List.finRange 12).map fun i : Fin 12 => destinationCode s.router.routes[i] := by
    unfold Router.notesPayload
    dsimp only
    rw [class_numbers, length]
    simp only [destination]
    rfl
  rw [← payload]
  exact congrArg Host.Outcome.next (serve_data s link (t := s.emptyNotes link) (j := none) ready.1
    (isSupervisor_of_readyAs ready) rfl rfl)

end Sys2Proof.Machine
end

section
/-! PROOFS. The link unit: LINK_STATUS, SEEK, READ, the bytes of a frame, and streams (R176, R178, R179,
R181, R182). -/

namespace Sys2Proof.Machine

/-! ## Requests that any class may issue -/

/-- A change of one channel that leaves its receiver, made before the end of a frame or after it. -/
theorem changeLink_endFrame_comm (s : State) (link : Link) {f : LinkChannel → LinkChannel}
    (comm : ∀ c : LinkChannel, f { c with receiver := .hunt } = { f c with receiver := .hunt }) :
    (s.endFrame link).changeLink link f = (s.changeLink link f).endFrame link := by
  simp [State.endFrame, State.changeLink, Vector.set_set, comm]

section AnyClass
variable {s : State} {link : Link} {body : State → Reply}

theorem serve_any_refuse (ready : s.ready link) {r : Reason}
    (reply : body (s.endFrame link) = refuse (s.endFrame link) r) :
    s.serve link anyClass body = s.answered link (.refused r) := serve_refuse s link ready rfl reply

/-- A request that only writes the channel of its own link. -/
theorem serve_any_channel (ready : s.ready link) {f : LinkChannel → LinkChannel} {a : Answer}
    (comm : ∀ c : LinkChannel, f { c with receiver := .hunt } = { f c with receiver := .hunt })
    (reply : body (s.endFrame link) =
      { state := (s.endFrame link).changeLink link f, answer := a }) :
    s.serve link anyClass body = (s.changeLink link f).answered link a.status a.payload := by
  rw [changeLink_endFrame_comm s link comm] at reply
  exact serve_endFrame s link (a := a) ready rfl reply

end AnyClass

/-! ## SEEK (R181) -/

section Seek
variable {b : Byte}

theorem spaceTable_of_le {n : Nat} (within : n ≤ 10) : spaceTable n ≠ none := by
  interval_cases n <;> nofun

theorem spaceOf_of_out (out : spaceTable b.toNat = none) : spaceOf b = none := by
  have high : 10 < b.toNat := Nat.lt_of_not_le fun within => spaceTable_of_le within out
  unfold spaceOf
  split
  any_goals omega
  rfl

theorem spaceOf_code (k : Space) : spaceOf (byteOf k.code) = some k := by cases k <;> rfl

theorem spaceTable_code (k : Space) :
    spaceTable (byteOf k.code).toNat = some (k.readTier, k.first, k.last) := by cases k <;> rfl

variable {s : State} {link : Link} {index : Nat} {k : Space}

theorem seekReply_of_out (out : spaceTable b.toNat = none) :
    seekReply link b index s = refuse s .range := by
  unfold seekReply
  rw [spaceOf_of_out out]

theorem seekReply_of_space :
    seekReply link (byteOf k.code) index s =
      if k.readTier < s.links[link].class_.tier then refuse s .tier
      else if ¬ k.bounds index = true then refuse s .range
      else accept (s.changeLink link fun c => { c with cursor := some { space := k, index := index } }) := by
  unfold seekReply
  rw [spaceOf_code]

end Seek

/-! ## READ (R182) -/

section Read
variable {s : State} {link : Link} {count : Nat} {advance : Byte}

theorem readReply_of_range (out : count = 0 ∨ 64 < count ∨ 1 < advance.toNat) :
    readReply link count advance s = refuse s .range := by
  by_cases flag : advance.toNat ≤ 1
  · unfold readReply
    rw [flagOf_of_flag flag]
    refine if_pos fun within => ?_
    obtain ⟨low, high⟩ : 1 ≤ count ∧ count ≤ 64 := (inRange_iff _ _ _).1 within
    omega
  · unfold readReply
    rw [flagOf_of_out (by omega)]

theorem readReply_of_valid (valid : ¬ (count = 0 ∨ 64 < count ∨ 1 < advance.toNat)) :
    readReply link count advance s =
      if s.links[link].cursor.isNone then refuse s .state
      else { state := s, answer := .data []
             stream := some { left := count, advance := decide (advance.toNat = 1), sent := 0 } } := by
  have within : inRange 1 Config.readMax count = true := by
    refine (inRange_iff _ _ _).2 ⟨?_, Nat.le_of_not_lt fun high : 64 < count => ?_⟩ <;> omega
  unfold readReply
  rw [flagOf_of_flag (by omega)]
  exact if_neg (not_not.2 within)

end Read

/-! ## Frames (R176) -/

/-- The bytes after the opening mark of a frame sum to 0. -/
theorem frameOf_balances (content : List Byte) :
    frameOf content = [0x7E] ++ (content ++ [checkByte content]) ∧
      (content ++ [checkByte content]).sum = 0 := by
  refine ⟨rfl, ?_⟩
  rw [List.sum_eq_foldl]
  exact sum_checkByte content

/-- Settles O57: each request by its checks in order, the codes class by class and error by error, and
the content of each kind of frame. -/
theorem linkStatusSeekAndRead : Obligations.LinkStatusSeekAndRead := by
  unfold Obligations.LinkStatusSeekAndRead
  intro classCode tierOf refusalCode statusCode errorCode spaceCode
  have class_ (c : StationClass) : byteOf c.code = classCode c := by cases c <;> rfl
  have tier (c : StationClass) : c.tier = tierOf c := by cases c <;> rfl
  have refusal (r : Reason) : byteOf r.code = refusalCode r := by cases r <;> rfl
  have status (a : Status) : byteOf a.code = statusCode a := by
    cases a with
    | refused r => exact refusal r
    | _ => rfl
  have error (e : LastError) : byteOf e.code = errorCode e := by
    cases e with
    | link e => cases e <;> rfl
    | refusal r => exact refusal r
    | _ => rfl
  have space (k : Space) : byteOf k.code = spaceCode k := by cases k <;> rfl
  refine ⟨fun s link ready => ?_, fun s link ready => ⟨fun code index out => ?_,
    fun code index k readTier first last code_eq table => ?_, fun count advance => ?_⟩, fun f => ?_⟩
  · intro c
    have payload : (s.endFrame link).links[link].statusPayload =
        [classCode c.class_, BitVec.ofNat 8 (tierOf c.class_), if c.quiet then 1 else 0,
          errorCode c.lastError,
          match c.cursor with
          | none => 0xFF
          | some k => spaceCode k.space] ++
          twoBytes (match c.cursor with
            | none => 0
            | some k => k.index) := by
      have channel : (s.endFrame link).links[link] = { c with receiver := .hunt } := by
        rw [endFrame_links]
        simp [c]
      unfold LinkChannel.statusPayload
      rw [channel, beBytes_two, class_, error, tier]
      cases cursor : c.cursor with
      | none => rfl
      | some k =>
        dsimp only [Option.elim]
        rw [space]
        rfl
    have answers : exec (.linkStatus link) s = .next
        ((s.changeLink link fun c => { c with lastError := .clear }).answered link .data
          (s.endFrame link).links[link].statusPayload) :=
      congrArg Host.Outcome.next
        (serve_any_channel (f := fun c => { c with lastError := .clear })
          (a := .data (s.endFrame link).links[link].statusPayload) ready (fun _ => rfl) rfl)
    exact answers.trans (congrArg (fun bytes => Host.Outcome.next
      ((s.changeLink link fun c => { c with lastError := .clear }).answered link .data bytes)) payload)
  · exact congrArg Host.Outcome.next (serve_any_refuse ready (seekReply_of_out out))
  · obtain rfl : code = byteOf k.code := code_eq.trans (space k).symm
    rw [spaceTable_code] at table
    cases table
    have reply := seekReply_of_space (s := s.endFrame link) (link := link) (index := index.toNat)
      (k := k)
    rw [endFrame_class, tier] at reply
    have bounds : k.bounds index.toNat = true ↔ k.first ≤ index.toNat ∧ index.toNat ≤ k.last :=
      inRange_iff _ _ _
    refine ⟨fun below => ?_, fun above out => ?_, fun above low high => ?_⟩
    · exact congrArg Host.Outcome.next (serve_any_refuse ready (reply.trans (if_pos below)))
    · rw [if_neg (Nat.not_lt.2 above), if_pos (by rw [bounds]; omega)] at reply
      exact congrArg Host.Outcome.next (serve_any_refuse ready reply)
    · rw [if_neg (Nat.not_lt.2 above), if_neg (not_not.2 (bounds.2 ⟨low, high⟩))] at reply
      exact congrArg Host.Outcome.next
        (serve_any_channel (f := fun c => { c with cursor := some { space := k, index := index.toNat } })
          (a := .accepted) ready (fun _ => rfl) reply)
  · intro reason
    have cursor : (s.endFrame link).links[link].cursor = s.links[link].cursor := by
      rw [endFrame_links]
      simp
    refine ⟨fun r refused => ?_, fun accepted => ?_⟩
    · simp only [reason, firstReason_eq_some, firstReason_nil, decide_eq_true_eq,
        decide_eq_false_iff_not] at refused
      have reply : readReply link count.toNat advance (s.endFrame link) =
          refuse (s.endFrame link) r := by
        rcases refused with ⟨out, rfl⟩ | ⟨valid, ⟨cleared, rfl⟩ | ⟨_, noReason⟩⟩
        · exact readReply_of_range out
        · exact (readReply_of_valid valid).trans (if_pos (by rw [cursor]; exact cleared))
        · cases noReason
      exact congrArg Host.Outcome.next (serve_any_refuse ready reply)
    · simp only [reason, firstReason_eq_none, decide_eq_false_iff_not] at accepted
      obtain ⟨valid, seeks, _⟩ := accepted
      have reply := (readReply_of_valid (s := s.endFrame link) (link := link) valid).trans
        (if_neg (by rw [cursor, seeks]; nofun))
      exact congrArg Host.Outcome.next (serve_data s link (t := s) ready rfl rfl reply)
  · obtain ⟨framed, balanced⟩ := frameOf_balances f.content
    refine ⟨checkByte f.content, ?_⟩
    intro content
    have content_eq : f.content ++ [checkByte f.content] = content := by
      cases f with
      | response a attention payload =>
        simp only [content, Frame.content, status, flagByte]
        rfl
      | record k index body =>
        simp only [content, Frame.content, space, beBytes_two]
        rfl
      | trailer sent => rfl
    rw [← content_eq]
    exact ⟨framed, balanced⟩

/-! ## Streams (R178, R182) -/

section Stream
variable {s : State} {link : Link} {j : StreamJob} {k : Cursor}

theorem next_eq (space : Space) (index : Nat) :
    space.next index = if space = .rod ∧ index = 65535 then 0 else index + 1 := by
  cases space <;> simp [Space.next]

theorem advanced_eq (k : Cursor) (advance : Bool) :
    k.advanced advance =
      if advance then
        { k with index := if k.space = .rod ∧ k.index = 65535 then 0 else k.index + 1 }
      else k := by
  unfold Cursor.advanced
  rw [next_eq]

theorem exec_streamRecord_of_streaming (streaming : s.links[link].transmitter = .streaming j) :
    exec (.streamRecord link) s = .next (s.streamTurn link j) := by
  change execStreamRecord link s = _
  unfold execStreamRecord
  rw [streaming]

theorem exec_transmitComplete_of_response (responding : s.links[link].transmitter = .responding none) :
    exec (.transmitComplete link) s =
      .next (s.changeLink link fun c => { c with transmitter := .idle }) := by
  change execTransmitComplete link s = _
  unfold execTransmitComplete
  rw [responding]

theorem exec_transmitComplete_of_stream
    (responding : s.links[link].transmitter = .responding (some j)) :
    exec (.transmitComplete link) s = .next (s.beginStream link j) := by
  change execTransmitComplete link s = _
  unfold execTransmitComplete
  rw [responding]

variable (cursor : s.links[link].cursor = some k)
include cursor

theorem streamTurn_of_end (beyond : s.holdsRecord k.space k.index = false) :
    s.streamTurn link j = s.endStream link j := by
  unfold State.streamTurn
  rw [cursor]
  exact if_neg (by rw [beyond]; nofun)

theorem streamTurn_of_record (holds : s.holdsRecord k.space k.index = true) :
    s.streamTurn link j = s.changeLink link fun c =>
      { c with
        transmitter := j.afterRecord
        cursor := some (k.advanced j.advance)
        sent := j.framesWith (.record k.space k.index (s.recordBytes k.space k.index)) } := by
  unfold State.streamTurn
  rw [cursor]
  exact if_pos holds

theorem beginStream_of_end (beyond : s.holdsRecord k.space k.index = false) :
    s.beginStream link j = s.endStream link j := by
  unfold State.beginStream
  rw [cursor]
  exact if_neg (by rw [beyond]; nofun)

theorem beginStream_of_record (holds : s.holdsRecord k.space k.index = true) :
    s.beginStream link j = s.changeLink link fun c => { c with transmitter := .streaming j } := by
  unfold State.beginStream
  rw [cursor]
  exact if_pos holds

end Stream

/-- Settles O58, by the transmitter, the record at the cursor, and what is left of the count. -/
theorem streamTurnsAndTheEndOfAResponse : Obligations.StreamTurnsAndTheEndOfAResponse := by
  refine ⟨?_, ?_⟩
  · intro s link c put
    refine ⟨fun notStreaming => ?_, fun j k streaming cursor => ⟨fun beyond => ?_, fun holds => ?_⟩⟩
    · change execStreamRecord link s = _
      unfold execStreamRecord
      split
      · next j streaming => exact absurd streaming (notStreaming j)
      all_goals rfl
    · rw [exec_streamRecord_of_streaming streaming, streamTurn_of_end cursor beyond]
      rfl
    · intro record moved
      have moved_eq : k.advanced j.advance = moved := advanced_eq k j.advance
      rw [exec_streamRecord_of_streaming streaming, streamTurn_of_record cursor holds, moved_eq]
      unfold StreamJob.afterRecord StreamJob.framesWith State.changeLink
      by_cases last : j.left ≤ 1
      · simp only [if_pos last]
        rfl
      · simp only [if_neg last]
        rfl
  · intro s link c put
    refine ⟨fun notResponding => ?_, exec_transmitComplete_of_response,
      fun j k responding cursor => ⟨fun holds => ?_, fun beyond => ?_⟩⟩
    · change execTransmitComplete link s = _
      unfold execTransmitComplete
      split
      · next responding => exact absurd responding (notResponding none)
      · next j responding => exact absurd responding (notResponding (some j))
      all_goals rfl
    · rw [exec_transmitComplete_of_stream responding, beginStream_of_record cursor holds]
      rfl
    · rw [exec_transmitComplete_of_stream responding, beginStream_of_end cursor beyond]
      rfl

end Sys2Proof.Machine
end

section
/-! PROOFS. The link unit: marks, discards and errors, and the break (R84, R148, R153, R176 to R179,
R185, R187). -/

namespace Sys2Proof.Machine

/-! ## The inter-byte limit and discards (R177, R179) -/

/-- The part with the receiver of a link in HUNT. -/
abbrev State.hunting (s : State) (link : Link) : State :=
  { s with links := s.links.set link { s.links[link] with receiver := .hunt } }

section Discards
variable {s : State} {link : Link} {gap : Nat} {bytes : List Byte}

theorem limitExpiry_of_hunt (hunt : s.links[link].receiver = .hunt) : s.limitExpiry link = s := by
  unfold State.limitExpiry LinkChannel.limitDue
  rw [hunt]
  rfl

variable (body : s.links[link].receiver = .body gap bytes)
include body

theorem limitExpiry_of_late (late : 2 < gap) :
    s.limitExpiry link = (s.hunting link).latched link .truncated := by
  unfold State.limitExpiry LinkChannel.limitDue
  rw [body]
  exact if_pos (decide_eq_true late)

theorem limitExpiry_of_inTime (inTime : ¬ 2 < gap) : s.limitExpiry link = s := by
  unfold State.limitExpiry LinkChannel.limitDue
  rw [body]
  exact if_neg (by rw [decide_eq_true_iff]; exact inTime)

theorem exec_frameDiscarded_of_body {e : LinkError} (ends : e.endsFrame = true) :
    exec (.frameDiscarded link e) s =
      .next (if 2 < gap then (s.hunting link).latched link .truncated
        else (s.hunting link).latched link e) := by
  change execFrameDiscarded link e s = _
  unfold execFrameDiscarded
  rw [if_pos ends]
  by_cases late : 2 < gap
  · rw [if_pos late]
    have hunt : (s.limitExpiry link).links[link].receiver = .hunt := by
      rw [limitExpiry_of_late body late]
      exact congrArg LinkChannel.receiver (latchError_channel (s.hunting link) link .truncated) |>.trans
        (by simp)
    rw [hunt, limitExpiry_of_late body late]
  · rw [if_neg late, limitExpiry_of_inTime body late, body]
    rfl

end Discards

theorem exec_frameDiscarded_of_hunt {s : State} {link : Link}
    (hunt : s.links[link].receiver = .hunt) (e : LinkError) :
    exec (.frameDiscarded link e) s = .next s := by
  change execFrameDiscarded link e s = _
  unfold execFrameDiscarded
  rw [limitExpiry_of_hunt hunt, hunt, ite_self]

/-- The errors that a discard may latch are those of R177. -/
theorem endsFrame_iff (e : LinkError) : e.endsFrame = true ↔ e ≠ .truncated ∧ e ≠ .contention := by
  cases e <;> simp [LinkError.endsFrame]

theorem exec_openingMark_limitExpiry {s : State} {link : Link}
    (taken : s.links[link].arrival = .taken) :
    exec (.openingMarkReceived link) (s.limitExpiry link) = exec (.openingMarkReceived link) s := by
  change execOpeningMarkReceived link _ = execOpeningMarkReceived link _
  unfold execOpeningMarkReceived
  rw [limitExpiry_arrival, taken, limitExpiry_limitExpiry]

/-- A command with a frame has a reply. -/
theorem replyOf_of_request {c : Instr} {link : Link} {code : Byte} {operands : List Byte}
    (h : request c = some (link, code, operands)) :
    ∃ may body, replyOf c = some (link, may, body) := by
  cases c <;> simp only [request, reduceCtorEq, Option.some.injEq, Prod.mk.injEq] at h
  all_goals
    obtain ⟨rfl, _, _⟩ := h
    exact ⟨_, _, rfl⟩

/-! ## A 7Eh in BODY (R176, R177) -/

section Mark
variable {s : State} {link : Link} {gap : Nat} {bytes : List Byte}

theorem exec_openingMark_of_ready (ready : s.ready link) :
    exec (.openingMarkReceived link) s = .next (s.receiveMark link) := by
  change execOpeningMarkReceived link s = _
  unfold execOpeningMarkReceived
  rw [arrival_of_ready ready, limitExpiry_of_ready ready]

theorem exec_openingMark_of_body (ready : s.ready link)
    (body : s.links[link].receiver = .body gap bytes) :
    exec (.openingMarkReceived link) s = .next (s.receiveByte link bytes openingMark) := by
  rw [exec_openingMark_of_ready ready]
  unfold State.receiveMark
  rw [body]

theorem receiveByte_of_error {b : Byte} {e : LinkError}
    (read : readFrame link (openingMark :: (bytes ++ [b])) = some (.error e)) :
    s.receiveByte link bytes b = (s.hunting link).latched link e := by
  unfold State.receiveByte
  dsimp only
  rw [read]
  rfl

theorem receiveByte_of_unfinished {b : Byte}
    (read : readFrame link (openingMark :: (bytes ++ [b])) = none) :
    s.receiveByte link bytes b =
      s.changeLink link fun c => { c with receiver := .body 0 (bytes ++ [b]) } := by
  unfold State.receiveByte
  dsimp only
  rw [read]

theorem receiveByte_of_request {b : Byte} {c : Instr}
    (read : readFrame link (openingMark :: (bytes ++ [b])) = some (.ok c)) :
    s.receiveByte link bytes b = s.dispatch c := by
  unfold State.receiveByte
  dsimp only
  rw [read]

end Mark

section ReadFrame
variable {link : Link} {code b : Byte} {operands : List Byte} {count : Nat}

theorem readFrame_of_unknown (unknown : operandCount code.toNat = none) (rest : List Byte) :
    readFrame link (openingMark :: code :: rest) = some (.error .unknown) := by
  unfold readFrame
  dsimp only
  rw [if_pos rfl, unknown]

variable (known : operandCount code.toNat = some count)
include known

theorem readFrame_of_short (short : operands.length < count) :
    readFrame link (openingMark :: (code :: operands ++ [b])) = none := by
  unfold readFrame
  dsimp only [List.cons_append]
  rw [if_pos rfl, known]
  exact if_pos (by simpa using short)

theorem readFrame_of_whole (whole : operands.length = count) :
    readFrame link (openingMark :: (code :: operands ++ [b])) =
      if (code :: operands).sum + b = 0 then (requestOf link code.toNat operands).map .ok
      else some (.error .check) := by
  have taken : (operands ++ [b]).take (count + 1) = operands ++ [b] :=
    List.take_of_length_le (by simp [whole])
  have sum : (code :: (operands ++ [b])).foldl (· + ·) 0 = (code :: operands).sum + b := by
    rw [← List.cons_append, List.foldl_append, ← List.sum_eq_foldl]
    rfl
  unfold readFrame
  dsimp only [List.cons_append]
  rw [if_pos rfl, known]
  dsimp only
  rw [if_neg (by simp [whole]), taken, sum, ← whole, List.take_left]

end ReadFrame

/-! ## Marks while the link transmits (R178, R185) -/

section Arrivals
variable {s : State} {link : Link}

theorem exec_mark_of_lost (spacing : s.links[link].spacing = true) :
    exec (.openingMarkReceived link) s = .next s ∧ exec (.contention link) s = .next s := by
  change execOpeningMarkReceived link s = _ ∧ execContention link s = _
  unfold execOpeningMarkReceived execContention
  rw [arrival_of_spacing spacing]
  exact ⟨rfl, rfl⟩

theorem exec_mark_of_busy (marking : s.links[link].spacing = false)
    (busy : s.links[link].transmitter ≠ .idle) :
    exec (.openingMarkReceived link) s = .next (s.discardMark link) ∧
      exec (.contention link) s = .next (s.discardMark link) := by
  change execOpeningMarkReceived link s = _ ∧ execContention link s = _
  unfold execOpeningMarkReceived execContention
  rw [arrival_of_busy marking busy]
  exact ⟨rfl, rfl⟩

theorem exec_contention_of_ready (ready : s.ready link) : exec (.contention link) s = .next s := by
  change execContention link s = _
  unfold execContention
  rw [arrival_of_ready ready]

end Arrivals

/-- Settles O59, by the receiver, by what the 7Eh is of a frame, and by the transmitter. -/
theorem marksDiscardsAndErrors : Obligations.MarksDiscardsAndErrors := by
  refine ⟨?_, ?_, ?_⟩
  · intro s link hunting truncated
    refine ⟨fun hunt => ⟨exec_frameDiscarded_of_hunt hunt,
      congrArg Host.Outcome.next (limitExpiry_of_hunt hunt)⟩, fun gap bytes body =>
      ⟨fun e notTruncated notContention => exec_frameDiscarded_of_body body
        ((endsFrame_iff e).2 ⟨notTruncated, notContention⟩), ?_, fun late marking idle => ?_⟩⟩
    · refine congrArg Host.Outcome.next (?_ : s.limitExpiry link = _)
      split
      · next late => exact limitExpiry_of_late body late
      · next inTime => exact limitExpiry_of_inTime body inTime
    · have taken : s.links[link].arrival = .taken := by
        unfold LinkChannel.arrival
        rw [if_neg (by rw [marking]; nofun), idle]
      have limit : s.limitExpiry link = truncated := limitExpiry_of_late body late
      rw [← limit]
      refine ⟨(exec_openingMark_limitExpiry taken).symm, fun c code operands h => ?_⟩
      obtain ⟨may, reply, found⟩ := replyOf_of_request h
      exact (exec_limitExpiry found taken).symm
  · intro s link gap bytes ready body hunting mark
    have takes := exec_openingMark_of_body ready body
    refine ⟨fun empty => ?_, fun code operands count whole known =>
      ⟨fun short => ?_, fun length unbalanced => ?_, fun length balanced c h => ?_⟩⟩
    · subst empty
      exact takes.trans (congrArg Host.Outcome.next
        (receiveByte_of_error (readFrame_of_unknown rfl [])))
    · subst whole
      exact takes.trans (congrArg Host.Outcome.next
        (receiveByte_of_unfinished (readFrame_of_short known short)))
    · subst whole
      exact takes.trans (congrArg Host.Outcome.next (receiveByte_of_error
        ((readFrame_of_whole known length).trans (if_neg unbalanced))))
    · subst whole
      obtain ⟨may, reply, found⟩ := replyOf_of_request h
      rw [exec_eq_dispatch (c := c) (by rw [found]; nofun)]
      refine takes.trans (congrArg Host.Outcome.next (receiveByte_of_request
        ((readFrame_of_whole known length).trans ((if_pos balanced).trans ?_))))
      rw [requestOf_of_request h]
      rfl
  · intro s link c put
    refine ⟨fun ready hunt => ?_, exec_contention_of_ready, exec_mark_of_lost,
      fun marking busy again => ?_, fun marking busy first => ?_, rfl⟩
    · rw [exec_openingMark_of_ready ready]
      unfold State.receiveMark
      rw [hunt]
      rfl
    · have discards := exec_mark_of_busy marking busy
      rw [discardMark_of_contended again] at discards
      exact discards
    · have discards := exec_mark_of_busy marking busy
      have latches : s.discardMark link = (put { c with contended := true }).latched link .contention := by
        unfold State.discardMark
        exact if_neg (by rw [first]; nofun)
      rw [latches] at discards
      exact discards

/-! ## The break (R84, R148, R153, R185) -/

section Break
variable (s : State) (link : Link)

/-- The mode once a changeover under way is cancelled (R84). -/
def AdmissionMode.cancelled : AdmissionMode → AdmissionMode
  | .changeover _ _ => .open_
  | .open_ => .open_
  | .closed => .closed

theorem loseClaimOf_changeover :
    s.loseClaimOf link .changeover =
      { s with
        authority := { s.authority with claims := { s.authority.claims with
          changeover := if s.authority.claims.changeover = some link then none
            else s.authority.claims.changeover } }
        admission := { s.admission with
          mode := if s.authority.claims.changeover = some link then s.admission.mode.cancelled
            else s.admission.mode } } := by
  unfold State.loseClaimOf
  by_cases held : s.authority.claims.changeover = some link
  · rw [if_pos (holds_changeover.2 held), if_pos held, if_pos held]
    exact loseClaim_changeover s
  · rw [if_neg (mt holds_changeover.1 held), if_neg held, if_neg held]

theorem loseClaimOf_purge :
    s.loseClaimOf link .purge =
      { s with
        authority := { s.authority with
          claims := { s.authority.claims with
            purge := if s.authority.claims.purge = some link then none
              else s.authority.claims.purge }
          drain := if s.authority.claims.purge = some link then false else s.authority.drain }
        admission := { s.admission with
          mode := if s.authority.claims.purge = some link ∧ s.authority.drain = true then .open_
            else s.admission.mode } } := by
  unfold State.loseClaimOf
  by_cases held : s.authority.claims.purge = some link
  · rw [if_pos (holds_purge.2 held), loseClaim_purge, if_pos held, if_pos held]
    simp only [held, true_and]
  · rw [if_neg (mt holds_purge.1 held), if_neg held, if_neg held, if_neg fun both => held both.1]

theorem loseClaimOf_reconfigure :
    s.loseClaimOf link .reconfigure =
      { s with authority := { s.authority with claims := { s.authority.claims with
        reconfigure := if s.authority.claims.reconfigure = some link then none
          else s.authority.claims.reconfigure } } } := by
  have holds : s.holds link .reconfigure = true ↔ s.authority.claims.reconfigure = some link :=
    decide_eq_true_iff
  unfold State.loseClaimOf
  by_cases held : s.authority.claims.reconfigure = some link
  · rw [if_pos (holds.2 held), if_pos held]
    rfl
  · rw [if_neg (mt holds.1 held), if_neg held]

/-- The three claims are lost one after the other, and each loss cancels its own work. -/
theorem resetLink_eq :
    s.resetLink link =
      { s with
        links := s.links.set link s.links[link].afterBreak
        router := { s.router with notes := s.router.notes.set link noEvents }
        authority := { s.authority with
          claims :=
            { changeover := if s.authority.claims.changeover = some link then none
                else s.authority.claims.changeover
              purge := if s.authority.claims.purge = some link then none
                else s.authority.claims.purge
              reconfigure := if s.authority.claims.reconfigure = some link then none
                else s.authority.claims.reconfigure }
          drain := if s.authority.claims.purge = some link then false else s.authority.drain }
        admission := { s.admission with
          mode :=
            if s.authority.claims.purge = some link ∧ s.authority.drain = true then .open_
            else if s.authority.claims.changeover = some link then s.admission.mode.cancelled
            else s.admission.mode } } := by
  unfold State.resetLink State.loseClaimsOf
  rw [loseClaimOf_reconfigure, loseClaimOf_purge, loseClaimOf_changeover]
  rfl

end Break

/-- Settles O60, by which of the claims the link holds. -/
theorem breakResetsTheLink : Obligations.BreakResetsTheLink := by
  intro s link claims cancelled
  refine congrArg Host.Outcome.next ((resetLink_eq s link).trans ?_)
  have mode : (if s.authority.claims.purge = some link ∧ s.authority.drain = true then .open_
      else if s.authority.claims.changeover = some link then s.admission.mode.cancelled
      else s.admission.mode) = if cancelled then .open_ else s.admission.mode := by
    simp only [cancelled, claims, Bool.or_eq_true, Bool.and_eq_true, decide_eq_true_eq]
    by_cases purge : s.authority.claims.purge = some link ∧ s.authority.drain = true
    · rw [if_pos purge, if_pos (.inr purge)]
    · by_cases changeover : s.authority.claims.changeover = some link
      · cases mode : s.admission.mode <;> simp [purge, changeover, AdmissionMode.cancelled]
      · simp [purge, changeover]
  rw [mode]
  rfl

end Sys2Proof.Machine
end

section
/-! PROOFS. Device reset: the reset values, the binding of the links and the invariants (R47, R174,
R186), and the record of IDENT (R183). -/

namespace Sys2Proof.Machine

/-! ## Straps (R174) -/

section Straps
variable {straps : Vector (BitVec 4) 12} {l o : Link}

/-- Two straps of one class are the same, but for those that bind no link. -/
theorem classOfStrap_injective :
    ∀ a b : BitVec 4, classOfStrap b ≠ .unbound → (classOfStrap a = classOfStrap b ↔ a = b) := by
  decide

theorem classOfStrap_zone : ∀ (code : BitVec 4) (n : Zone), code.toNat = 8 + n.val →
    classOfStrap code = .zone n := by decide

theorem classOfStrap_unbound : ∀ code : BitVec 4,
    code = 0x0 ∨ (4 ≤ code.toNat ∧ code.toNat ≤ 7) → classOfStrap code = .unbound := by decide

/-- How many lower-numbered links carry the same strap code. -/
abbrev lowerAlike (straps : Vector (BitVec 4) 12) (l : Link) (code : BitVec 4) : Nat :=
  ((List.finRange 12).filter fun o => decide (o < l ∧ straps[o] = code)).length

theorem lowerSame_eq (bound : classOfStrap straps[l] ≠ .unbound) :
    lowerSame straps l = lowerAlike straps l straps[l] := by
  refine congrArg List.length (List.filter_congr fun o _ => ?_)
  rw [Bool.decide_and]
  congr 1
  exact decide_eq_decide.2 (classOfStrap_injective straps[o] straps[l] bound)

theorem keepsClass_iff : keepsClass straps l = true ↔
    lowerSame straps l < (classOfStrap straps[l]).places := decide_eq_true_iff

theorem boundClass_of_kept (kept : keepsClass straps l = true) :
    boundClass straps l = classOfStrap straps[l] := if_pos kept

/-- A link that names a class is bound to it, or is UNBOUND with a conflict (R174). -/
theorem bindLink_of_class {c : StationClass} (names : classOfStrap straps[l] = c)
    (bound : c ≠ .unbound) :
    if lowerAlike straps l straps[l] < c.places then
      (bindLink straps l).class_ = c ∧ (bindLink straps l).lastError = .clear
    else (bindLink straps l).class_ = .unbound ∧ (bindLink straps l).lastError = .bindConflict := by
  have keeps : keepsClass straps l = true ↔ lowerAlike straps l straps[l] < c.places := by
    rw [keepsClass_iff, lowerSame_eq (names ▸ bound), names]
  unfold bindLink boundClass
  split
  · next room =>
    rw [if_pos (keeps.2 room), if_pos (keeps.2 room)]
    exact ⟨names, rfl⟩
  · next full =>
    rw [if_neg (mt keeps.1 full), if_neg (mt keeps.1 full)]
    exact ⟨rfl, rfl⟩

/-- A link strapped to no class is UNBOUND without a conflict. -/
theorem bindLink_of_unbound (names : classOfStrap straps[l] = .unbound) :
    (bindLink straps l).class_ = .unbound ∧ (bindLink straps l).lastError = .clear := by
  have kept : keepsClass straps l = true := by
    rw [keepsClass_iff, names]
    exact (List.length_filter_lt_length_iff_exists.2 ⟨l, List.mem_finRange l, by simp⟩).trans_eq
      List.length_finRange
  unfold bindLink
  rw [boundClass_of_kept kept, if_pos kept]
  exact ⟨names, rfl⟩

/-! ### The links of the zones -/

theorem boundClass_zone {z : Zone} (zone : boundClass straps l = .zone z) :
    classOfStrap straps[l] = .zone z ∧ lowerSame straps l = 0 := by
  unfold boundClass at zone
  split at zone
  · next kept =>
    rw [keepsClass_iff, zone] at kept
    exact ⟨zone, Nat.lt_one_iff.1 kept⟩
  · cases zone

/-- No link below one that holds a zone holds the same zone. -/
theorem boundClass_zone_of_lt {z : Zone} (higher : boundClass straps l = .zone z) (lt : o < l) :
    boundClass straps o ≠ .zone z := by
  intro lower
  obtain ⟨class_o, _⟩ := boundClass_zone lower
  obtain ⟨class_l, first⟩ := boundClass_zone higher
  have counted := List.eq_nil_of_length_eq_zero first
  rw [List.filter_eq_nil_iff] at counted
  exact counted o (List.mem_finRange o) (Bool.and_eq_true_iff.2
    ⟨decide_eq_true lt, decide_eq_true (class_o.trans class_l.symm)⟩)

theorem boundClass_zone_unique {z : Zone} (first : boundClass straps l = .zone z)
    (second : boundClass straps o = .zone z) : l = o := by
  rcases lt_trichotomy l o with lt | same | gt
  · exact absurd first (boundClass_zone_of_lt second lt)
  · exact same
  · exact absurd second (boundClass_zone_of_lt first gt)

theorem bindZone_iff (z : Zone) : bindZone straps z = some l ↔ boundClass straps l = .zone z := by
  unfold bindZone
  constructor
  · intro found
    exact of_decide_eq_true
      (List.find?_some (p := fun l => decide (boundClass straps l = .zone z)) found)
  · intro bound
    cases found : (List.finRange 12).find? fun l => decide (boundClass straps l = .zone z) with
    | none =>
      exact absurd (decide_eq_true bound) (List.find?_eq_none.1 found l (List.mem_finRange l))
    | some o =>
      have other : boundClass straps o = .zone z := of_decide_eq_true
        (List.find?_some (p := fun l => decide (boundClass straps l = .zone z)) found)
      rw [boundClass_zone_unique bound other]

end Straps

section Reset
variable (s : State) (straps : Vector (BitVec 4) 12)

theorem deviceReset_link (l : Link) : (s.deviceReset straps).links[l] = bindLink straps l := by
  change (Vector.ofFn _)[l] = _
  simp

theorem deviceReset_channel (z : Zone) :
    (s.deviceReset straps).zones.channels[z] =
      { ZoneChannel.reset with boundLink := bindZone straps z } := by
  change (Vector.ofFn _)[z] = _
  simp

end Reset

/-- Settles O4: the reset values block by block, then the class that each strap code gives. -/
theorem deviceResetGivesTheResetValues : Obligations.DeviceResetGivesTheResetValues := by
  refine ⟨fun straps s => ⟨s.deviceReset straps, rfl, rfl, fun i => ?_, rfl, rfl, rfl, rfl, fun z => ?_,
    rfl, rfl, rfl, rfl, rfl, rfl, fun i => ?_, rfl, rfl, fun l c => ?_, fun z => ?_, fun l => ?_, rfl⟩,
    fun straps s t reset => ?_⟩
  · exact Vector.getElem_replicate i.isLt
  · rw [deviceReset_channel]
    rfl
  · exact Vector.getElem_replicate i.isLt
  · change ((Vector.replicate 12 (Vector.replicate 12 false))[l])[c.index] = false
    simp
  · exact Vector.getElem_replicate z.isLt
  · rw [deviceReset_link]
    rfl
  · obtain rfl : s.deviceReset straps = t := Host.Outcome.next.inj reset
    refine ⟨fun l => ?_, fun z l => ?_⟩
    · intro lower bound conflict
      have binds {c : StationClass} (names : classOfStrap straps[l] = c) (other : c ≠ .unbound) :
          if lower straps[l] < c.places then bound c else conflict := by
        simp only [bound, conflict, deviceReset_link]
        exact bindLink_of_class names other
      refine ⟨fun code => ?_, fun code => ?_, fun code => ?_, fun n code => ?_, fun code => ?_⟩
      · have bound := binds (c := .supervisor) (by rw [code]; rfl) nofun
        rw [code] at bound
        exact bound
      · have bound := binds (c := .spreader) (by rw [code]; rfl) nofun
        rw [code] at bound
        simpa only [StationClass.places, Nat.lt_one_iff] using bound
      · have bound := binds (c := .stripper) (by rw [code]; rfl) nofun
        rw [code] at bound
        simpa only [StationClass.places, Nat.lt_one_iff] using bound
      · have bound := binds (classOfStrap_zone straps[l] n code) nofun
        simpa only [StationClass.places, Nat.lt_one_iff] using bound
      · simp only [bound, deviceReset_link]
        exact bindLink_of_unbound (classOfStrap_unbound straps[l] code)
    · rw [deviceReset_channel, deviceReset_link]
      exact bindZone_iff z

/-- Settles O5: each invariant holds of the empty part. -/
theorem resetHasEveryInvariant : Obligations.ResetHasEveryInvariant := by
  have channels : State.reset.zones.channels =
      Vector.ofFn fun _ : Zone => { ZoneChannel.reset with boundLink := none } := by
    refine Vector.ext fun i lt => ?_
    rw [Vector.getElem_ofFn]
    exact Vector.getElem_replicate lt
  exact ⟨motionInv_of_reset rfl rfl, claimInv_of_reset rfl rfl rfl,
    zoneInv_of_reset (fun _ => none) channels, (rodInv_iff _).2 (empty_rods []).1,
    placeInv_of_reset rfl rfl rfl rfl rfl rfl,
    lotInv_of_reset rfl (fun i => Vector.getElem_replicate i.isLt) rfl⟩

/-! ## IDENT (R183) -/

theorem holdsRecord_ident (s : State) (index : Nat) :
    s.holdsRecord .ident index = true ↔ index = 0 := by
  have bounds : s.holdsRecord .ident index = inRange 0 0 index := Bool.and_true _
  rw [bounds, inRange_iff]
  omega

/-- The first frame of a turn that sends a record is the record. -/
theorem framesWith_head (j : StreamJob) (record : Frame) :
    (j.framesWith record).head? = some record := by
  unfold StreamJob.framesWith
  split <;> rfl

/-- Settles O15: the turn of a stream that stands at IDENT sends its constants. -/
theorem identRecordIsConstant : Obligations.IdentRecordIsConstant := by
  refine ⟨holdsRecord_ident, fun s link j streaming cursor => ?_⟩
  have turn := (exec_streamRecord_of_streaming streaming).trans (congrArg Host.Outcome.next
    (streamTurn_of_record cursor ((holdsRecord_ident s 0).2 rfl)))
  exact ⟨_, turn, framesWith_head j _, rfl, rfl, rfl, rfl⟩

end Sys2Proof.Machine
end
